-- ==== Sys2Proof/Word.lean ====
section
/-! DEFINITION. The word types of the CORE and the shapes of its composite values: a field element
(spec rules R12, R21), a cubic and a sextic extension element (R22, R23), a curve point (R24, R25). -/
namespace Sys2Proof

/-- A byte of the data buffer (R50). -/
abbrev Byte := BitVec 8

/-- One command word (R81). -/
abbrev Word := BitVec 32

/-- A raw Fp value: twelve 64-bit limbs taken as one integer of 768 bits (R12). Also the width of a scalar
register (R26). -/
abbrev Fp := BitVec 768

/-- A triple `c0 + c1·v + c2·v²` (R22): over `Fp` the contents of a register, over `Nat` its residues. -/
structure CubicElt (α : Type) where
  c0 : α
  c1 : α
  c2 : α
  deriving DecidableEq, Repr

/-- A pair `a0 + a1·w` of cubic elements (R23). -/
structure SexticElt (α : Type) where
  a0 : CubicElt α
  a1 : CubicElt α
  deriving DecidableEq, Repr

/-- A triple of coordinates (R24, R25): Jacobian in a point register, homogeneous projective in the Miller loop. -/
structure Point (α : Type) where
  x : α
  y : α
  z : α
  deriving DecidableEq, Repr

/-- An affine pair of coordinates. -/
structure Affine (α : Type) where
  x : α
  y : α
  deriving DecidableEq, Repr

/-- An entry of the pair list, the affine coordinates of its two points (R29). -/
structure Pair (α : Type) where
  px : α
  py : α
  qx : α
  qy : α
  deriving DecidableEq, Repr

end Sys2Proof
end

