-- ==== Sys2Proof/Config.lean ====
section
/-! DEFINITION. What an implementation fixes: the named parameters of spec rules R10 and R11, and the free value
from which every `draw` of the spec is made (R19). -/
namespace Sys2Proof

/-- The two kinds of sextic twist (R10 `TWIST`, R300). -/
inductive Twist where
  | mType
  | dType
  deriving DecidableEq, Repr

/-- The named parameters that the spec leaves open (R10, R11, decision D20), as plain numbers. A state carries them
in its field `cfg`, so that every statement about every state holds for every choice of them. Curve coefficients and
generator coordinates are residues, not Montgomery forms. `INP`, `ONE`, `R2`, `BETA` are fixed by `P_MOD` and
computed from it; `XI6` is `v` (D13). The register counts and `SCBITS` of R11 are not here but in the types of
`State`: DESIGN CHOICE, log entry 17. -/
structure Config where
  /-- `P_MOD`, the base-field modulus. -/
  pMod : Nat
  /-- `R_ORD`, the order of G1, G2 and GT. -/
  rOrd : Nat
  /-- `B_G1`. -/
  bG1 : Nat
  /-- `B_G2`. -/
  bG2 : Nat
  /-- `TWIST`. -/
  twist : Twist
  /-- `H_G1`. -/
  hG1 : Nat
  /-- `H_G2`. -/
  hG2 : Nat
  /-- `G1_GEN`. -/
  genG1 : Affine Nat
  /-- `G2_GEN`. -/
  genG2 : Affine Nat
  /-- `ATE_LOOP1`. -/
  ateLoop1 : Nat
  /-- `ATE_LOOP2`. -/
  ateLoop2 : Nat
  /-- `LOOP1_NEG`. -/
  loop1Neg : Bool
  /-- `LOOP2_NEG`. -/
  loop2Neg : Bool
  /-- `SEED`. No result depends on it (R306). -/
  seed : Nat
  /-- `HARD_MULT`. -/
  hardMult : Nat
  /-- `MSM_WINDOW(n)` for `n` from 0 to 8. No result depends on it (R272). -/
  msmWindow : Vector Nat 9
  /-- `DMEM_SIZE`. -/
  dmemSize : Nat
  /-- `MAXPAIRS`. -/
  maxPairs : Nat
  deriving DecidableEq, Repr

/-- The free values: the `n`-th value the CORE takes where the spec writes `draw` (R19). Nothing constrains it.
Log entry 3. -/
opaque Config.freeValue : Nat → Fp

end Sys2Proof
end

