-- ==== Sys2Proof/Syntax.lean ====
section
/-! DEFINITION. The commands of the CORE, one constructor for each row of the opcode table (R90), with the operands
the row lists in the order of R93. -/
namespace Sys2Proof

/-- The index of an `FP` register (R21, R86). -/
abbrev FpIdx := Fin 16

/-- The index of an `FP3`, `FP6`, `G1`, `G2` or `SC` register (R22 to R26, R86). -/
abbrev Idx := Fin 8

/-- A command with its operands. The immediates keep the width of their field (R85). -/
inductive Instr where
  -- System and scalar commands (46_system.md)
  /-- `NOP` (R320). -/
  | nop
  /-- `SETPTR imm24` (R321). -/
  | setPtr (imm24 : BitVec 24)
  /-- `SETLEN imm24` (R322). -/
  | setLen (imm24 : BitVec 24)
  /-- `CLRERR` (R323). -/
  | clrErr
  /-- `SC.LDI kd, imm20` (R324). -/
  | scLdi (rd : Idx) (imm20 : BitVec 20)
  /-- `SC.LD kd` (R325). -/
  | scLd (rd : Idx)
  /-- `SC.ST ka` (R326). -/
  | scSt (ra : Idx)
  /-- `SC.MOV kd, ka` (R327). -/
  | scMov (rd : Idx) (ra : Idx)
  -- Base field commands (40_fp.md)
  /-- `FP.ZERO fd` (R120). -/
  | fpZero (rd : FpIdx)
  /-- `FP.ONE fd` (R121). -/
  | fpOne (rd : FpIdx)
  /-- `FP.MODULUS fd` (R122). -/
  | fpModulus (rd : FpIdx)
  /-- `FP.MOV fd, fa` (R123). -/
  | fpMov (rd : FpIdx) (ra : FpIdx)
  /-- `FP.LD fd` (R124). -/
  | fpLd (rd : FpIdx)
  /-- `FP.ST fa` (R125). -/
  | fpSt (ra : FpIdx)
  /-- `FP.FROMSC fd, ka` (R126). -/
  | fpFromSc (rd : FpIdx) (ra : Idx)
  /-- `FP.TOSC kd, fa` (R127). -/
  | fpToSc (rd : Idx) (ra : FpIdx)
  /-- `FP.TOMONT fd, fa` (R128). -/
  | fpToMont (rd : FpIdx) (ra : FpIdx)
  /-- `FP.FROMMONT fd, fa` (R129). -/
  | fpFromMont (rd : FpIdx) (ra : FpIdx)
  /-- `FP.ADD fd, fa, fb` (R130). -/
  | fpAdd (rd : FpIdx) (ra : FpIdx) (rb : FpIdx)
  /-- `FP.SUB fd, fa, fb` (R131). -/
  | fpSub (rd : FpIdx) (ra : FpIdx) (rb : FpIdx)
  /-- `FP.DOUBLE fd, fa` (R132). -/
  | fpDouble (rd : FpIdx) (ra : FpIdx)
  /-- `FP.NEG fd, fa` (R133). -/
  | fpNeg (rd : FpIdx) (ra : FpIdx)
  /-- `FP.LADD fd, fa, fb` (R134). -/
  | fpLAdd (rd : FpIdx) (ra : FpIdx) (rb : FpIdx)
  /-- `FP.LDOUBLE fd, fa` (R135). -/
  | fpLDouble (rd : FpIdx) (ra : FpIdx)
  /-- `FP.LSUB fd, fa, fb` (R136). -/
  | fpLSub (rd : FpIdx) (ra : FpIdx) (rb : FpIdx)
  /-- `FP.MUL fd, fa, fb` (R137). -/
  | fpMul (rd : FpIdx) (ra : FpIdx) (rb : FpIdx)
  /-- `FP.SQUARE fd, fa` (R138). -/
  | fpSquare (rd : FpIdx) (ra : FpIdx)
  /-- `FP.INV fd, fa` (R139). -/
  | fpInv (rd : FpIdx) (ra : FpIdx)
  /-- `FP.EXP fd, fa, kb` (R140). -/
  | fpExp (rd : FpIdx) (ra : FpIdx) (rb : Idx)
  /-- `FP.SQRT fd, fa` (R141). -/
  | fpSqrt (rd : FpIdx) (ra : FpIdx)
  /-- `FP.ISQNR fa` (R142). -/
  | fpIsQnr (ra : FpIdx)
  /-- `FP.MULNR fd, fa` (R143). -/
  | fpMulNr (rd : FpIdx) (ra : FpIdx)
  /-- `FP.CMP fa, fb` (R144). -/
  | fpCmp (ra : FpIdx) (rb : FpIdx)
  /-- `FP.EQ fa, fb` (R145). -/
  | fpEq (ra : FpIdx) (rb : FpIdx)
  /-- `FP.ISZERO fa` (R146). -/
  | fpIsZero (ra : FpIdx)
  /-- `FP.ISONE fa` (R147). -/
  | fpIsOne (ra : FpIdx)
  /-- `FP.ISODD fa` (R148). -/
  | fpIsOdd (ra : FpIdx)
  /-- `FP.ISEVEN fa` (R149). -/
  | fpIsEven (ra : FpIdx)
  /-- `FP.ISVALID fa` (R150). -/
  | fpIsValid (ra : FpIdx)
  -- Cubic extension commands (41_fp3.md)
  /-- `FP3.ZERO td` (R165). -/
  | fp3Zero (rd : Idx)
  /-- `FP3.ONE td` (R166). -/
  | fp3One (rd : Idx)
  /-- `FP3.MOV td, ta` (R167). -/
  | fp3Mov (rd : Idx) (ra : Idx)
  /-- `FP3.LD td` (R168). -/
  | fp3Ld (rd : Idx)
  /-- `FP3.ST ta` (R169). -/
  | fp3St (ra : Idx)
  /-- `FP3.SET td, fa, fb, fc` (R170). -/
  | fp3Set (rd : Idx) (ra : FpIdx) (rb : FpIdx) (rc : FpIdx)
  /-- `FP3.GET fd, ta, imm8` (R171). -/
  | fp3Get (rd : FpIdx) (ra : Idx) (imm8 : BitVec 8)
  /-- `FP3.ADD td, ta, tb` (R172). -/
  | fp3Add (rd : Idx) (ra : Idx) (rb : Idx)
  /-- `FP3.SUB td, ta, tb` (R173). -/
  | fp3Sub (rd : Idx) (ra : Idx) (rb : Idx)
  /-- `FP3.DOUBLE td, ta` (R174). -/
  | fp3Double (rd : Idx) (ra : Idx)
  /-- `FP3.NEG td, ta` (R175). -/
  | fp3Neg (rd : Idx) (ra : Idx)
  /-- `FP3.LADD td, ta, tb` (R176). -/
  | fp3LAdd (rd : Idx) (ra : Idx) (rb : Idx)
  /-- `FP3.MUL td, ta, tb` (R177). -/
  | fp3Mul (rd : Idx) (ra : Idx) (rb : Idx)
  /-- `FP3.SQUARE td, ta` (R178). -/
  | fp3Square (rd : Idx) (ra : Idx)
  /-- `FP3.INV td, ta` (R179). -/
  | fp3Inv (rd : Idx) (ra : Idx)
  /-- `FP3.EXP td, ta, kb` (R180). -/
  | fp3Exp (rd : Idx) (ra : Idx) (rb : Idx)
  /-- `FP3.FROB td, ta, imm8` (R181). -/
  | fp3Frob (rd : Idx) (ra : Idx) (imm8 : BitVec 8)
  /-- `FP3.MUL0 td, ta, tb` (R182). -/
  | fp3Mul0 (rd : Idx) (ra : Idx) (rb : Idx)
  /-- `FP3.EQ ta, tb` (R183). -/
  | fp3Eq (ra : Idx) (rb : Idx)
  /-- `FP3.ISZERO ta` (R184). -/
  | fp3IsZero (ra : Idx)
  /-- `FP3.ISONE ta` (R185). -/
  | fp3IsOne (ra : Idx)
  -- Sextic extension commands (42_fp6.md)
  /-- `FP6.ZERO sd` (R195). -/
  | fp6Zero (rd : Idx)
  /-- `FP6.ONE sd` (R196). -/
  | fp6One (rd : Idx)
  /-- `FP6.MOV sd, sa` (R197). -/
  | fp6Mov (rd : Idx) (ra : Idx)
  /-- `FP6.LD sd` (R198). -/
  | fp6Ld (rd : Idx)
  /-- `FP6.ST sa` (R199). -/
  | fp6St (ra : Idx)
  /-- `FP6.SET sd, ta, tb` (R200). -/
  | fp6Set (rd : Idx) (ra : Idx) (rb : Idx)
  /-- `FP6.GET td, sa, imm8` (R201). -/
  | fp6Get (rd : Idx) (ra : Idx) (imm8 : BitVec 8)
  /-- `FP6.ADD sd, sa, sb` (R202). -/
  | fp6Add (rd : Idx) (ra : Idx) (rb : Idx)
  /-- `FP6.SUB sd, sa, sb` (R203). -/
  | fp6Sub (rd : Idx) (ra : Idx) (rb : Idx)
  /-- `FP6.DOUBLE sd, sa` (R204). -/
  | fp6Double (rd : Idx) (ra : Idx)
  /-- `FP6.NEG sd, sa` (R205). -/
  | fp6Neg (rd : Idx) (ra : Idx)
  /-- `FP6.LADD sd, sa, sb` (R206). -/
  | fp6LAdd (rd : Idx) (ra : Idx) (rb : Idx)
  /-- `FP6.MUL sd, sa, sb` (R207). -/
  | fp6Mul (rd : Idx) (ra : Idx) (rb : Idx)
  /-- `FP6.SQUARE sd, sa` (R208). -/
  | fp6Square (rd : Idx) (ra : Idx)
  /-- `FP6.CYCSQ sd, sa` (R209). -/
  | fp6CycSq (rd : Idx) (ra : Idx)
  /-- `FP6.INV sd, sa` (R210). -/
  | fp6Inv (rd : Idx) (ra : Idx)
  /-- `FP6.EXP sd, sa, kb` (R211). -/
  | fp6Exp (rd : Idx) (ra : Idx) (rb : Idx)
  /-- `FP6.CONJ sd, sa` (R212). -/
  | fp6Conj (rd : Idx) (ra : Idx)
  /-- `FP6.FROB sd, sa, imm8` (R213). -/
  | fp6Frob (rd : Idx) (ra : Idx) (imm8 : BitVec 8)
  /-- `FP6.MUL014 sd, fa, fb, fc` (R214). -/
  | fp6Mul014 (rd : Idx) (ra : FpIdx) (rb : FpIdx) (rc : FpIdx)
  /-- `FP6.MUL034 sd, fa, fb, fc` (R215). -/
  | fp6Mul034 (rd : Idx) (ra : FpIdx) (rb : FpIdx) (rc : FpIdx)
  /-- `FP6.EQ sa, sb` (R216). -/
  | fp6Eq (ra : Idx) (rb : Idx)
  /-- `FP6.ISZERO sa` (R217). -/
  | fp6IsZero (ra : Idx)
  /-- `FP6.ISONE sa` (R218). -/
  | fp6IsOne (ra : Idx)
  /-- `FP6.ISVALID sa` (R219). -/
  | fp6IsValid (ra : Idx)
  -- G1 point commands (43_curve.md)
  /-- `G1.ZERO pd` (R230). -/
  | g1Zero (rd : Idx)
  /-- `G1.GEN pd` (R231). -/
  | g1Gen (rd : Idx)
  /-- `G1.MOV pd, pa` (R232). -/
  | g1Mov (rd : Idx) (ra : Idx)
  /-- `G1.LD pd` (R233). -/
  | g1Ld (rd : Idx)
  /-- `G1.ST pa` (R234). -/
  | g1St (ra : Idx)
  /-- `G1.SET pd, fa, fb, fc` (R235). -/
  | g1Set (rd : Idx) (ra : FpIdx) (rb : FpIdx) (rc : FpIdx)
  /-- `G1.GET fd, pa, imm8` (R236). -/
  | g1Get (rd : FpIdx) (ra : Idx) (imm8 : BitVec 8)
  /-- `G1.ADD pd, pa, pb` (R237). -/
  | g1Add (rd : Idx) (ra : Idx) (rb : Idx)
  /-- `G1.DOUBLE pd, pa` (R238). -/
  | g1Double (rd : Idx) (ra : Idx)
  /-- `G1.NEG pd, pa` (R239). -/
  | g1Neg (rd : Idx) (ra : Idx)
  /-- `G1.SUB pd, pa, pb` (R240). -/
  | g1Sub (rd : Idx) (ra : Idx) (rb : Idx)
  /-- `G1.AFFINE pd, pa` (R241). -/
  | g1Affine (rd : Idx) (ra : Idx)
  /-- `G1.ISONCURVE pa` (R242). -/
  | g1IsOnCurve (ra : Idx)
  /-- `G1.ISAFFINE pa` (R243). -/
  | g1IsAffine (ra : Idx)
  /-- `G1.ISINF pa` (R244). -/
  | g1IsInf (ra : Idx)
  /-- `G1.EQ pa, pb` (R245). -/
  | g1Eq (ra : Idx) (rb : Idx)
  -- G1 scalar multiplication (44_msm.md)
  /-- `G1.MULSC pd, pa, kb` (R274). -/
  | g1MulSc (rd : Idx) (ra : Idx) (rb : Idx)
  /-- `G1.CLRCOF pd, pa` (R275). -/
  | g1ClrCof (rd : Idx) (ra : Idx)
  /-- `G1.MSM pd, pa, kb, imm8` (R276). -/
  | g1Msm (rd : Idx) (ra : Idx) (rb : Idx) (imm8 : BitVec 8)
  -- G2 point commands (43_curve.md)
  /-- `G2.ZERO qd` (R250). -/
  | g2Zero (rd : Idx)
  /-- `G2.GEN qd` (R251). -/
  | g2Gen (rd : Idx)
  /-- `G2.MOV qd, qa` (R252). -/
  | g2Mov (rd : Idx) (ra : Idx)
  /-- `G2.LD qd` (R253). -/
  | g2Ld (rd : Idx)
  /-- `G2.ST qa` (R254). -/
  | g2St (ra : Idx)
  /-- `G2.SET qd, fa, fb, fc` (R255). -/
  | g2Set (rd : Idx) (ra : FpIdx) (rb : FpIdx) (rc : FpIdx)
  /-- `G2.GET fd, qa, imm8` (R256). -/
  | g2Get (rd : FpIdx) (ra : Idx) (imm8 : BitVec 8)
  /-- `G2.ADD qd, qa, qb` (R257). -/
  | g2Add (rd : Idx) (ra : Idx) (rb : Idx)
  /-- `G2.DOUBLE qd, qa` (R258). -/
  | g2Double (rd : Idx) (ra : Idx)
  /-- `G2.NEG qd, qa` (R259). -/
  | g2Neg (rd : Idx) (ra : Idx)
  /-- `G2.SUB qd, qa, qb` (R260). -/
  | g2Sub (rd : Idx) (ra : Idx) (rb : Idx)
  /-- `G2.AFFINE qd, qa` (R261). -/
  | g2Affine (rd : Idx) (ra : Idx)
  /-- `G2.ISONCURVE qa` (R262). -/
  | g2IsOnCurve (ra : Idx)
  /-- `G2.ISAFFINE qa` (R263). -/
  | g2IsAffine (ra : Idx)
  /-- `G2.ISINF qa` (R264). -/
  | g2IsInf (ra : Idx)
  /-- `G2.EQ qa, qb` (R265). -/
  | g2Eq (ra : Idx) (rb : Idx)
  -- G2 scalar multiplication (44_msm.md)
  /-- `G2.MULSC qd, qa, kb` (R277). -/
  | g2MulSc (rd : Idx) (ra : Idx) (rb : Idx)
  /-- `G2.CLRCOF qd, qa` (R278). -/
  | g2ClrCof (rd : Idx) (ra : Idx)
  /-- `G2.MSM qd, qa, kb, imm8` (R279). -/
  | g2Msm (rd : Idx) (ra : Idx) (rb : Idx) (imm8 : BitVec 8)
  /-- `G2.INSUB qa` (R280). -/
  | g2InSub (ra : Idx)
  -- Pairing commands (45_pairing.md)
  /-- `PAIR.ADD pa, qb` (R310). -/
  | pairAdd (ra : Idx) (rb : Idx)
  /-- `PAIR.ADDINV pa, qb` (R311). -/
  | pairAddInv (ra : Idx) (rb : Idx)
  /-- `PAIR.RESET` (R312). -/
  | pairReset
  /-- `PAIR.RESULT sd` (R313). -/
  | pairResult (rd : Idx)
  /-- `PAIR.CHECK` (R314). -/
  | pairCheck
  /-- `PAIR.MILLER sd` (R315). -/
  | pairMiller (rd : Idx)
  /-- `FEXP sd, sa` (R316). -/
  | fexp (rd : Idx) (ra : Idx)
  /-- `FEXP.EASY sd, sa` (R317). -/
  | fexpEasy (rd : Idx) (ra : Idx)
  /-- `FEXP.HARD sd, sa` (R318). -/
  | fexpHard (rd : Idx) (ra : Idx)
  deriving DecidableEq, Repr

end Sys2Proof
end

