-- ==== Sys2Proof/WellFormed.lean ====
section
/-! DEFINITION. What a command must meet beyond the shape of its operands: the immediate selectors (R88) and the
register ranges of a multi-scalar multiplication (R86). -/
namespace Sys2Proof

/-- Why a word is illegal, in the order R89 tests it. -/
inductive Illegal where
  /-- No row of the opcode map has this opcode. -/
  | unassignedOpcode
  /-- An unused field is not zero, or bit 3 of an index into an 8-register file is set (R86, R87). -/
  | fixedBits
  /-- An immediate is above its limit (R88). -/
  | immediateLimit
  /-- A register range of `G1.MSM` or `G2.MSM` leaves its file (R86). -/
  | msmRange
  deriving DecidableEq, Repr

/-- The limit on a selector or count. -/
def atMost (limit : Nat) (imm8 : BitVec 8) : Option Illegal :=
  if imm8.toNat ≤ limit then none else some .immediateLimit

/-- The conditions on the operands of a multi-scalar multiplication. -/
def msmOperands (ra rb : Idx) (imm8 : BitVec 8) : Option Illegal :=
  if imm8.toNat > 8 then some .immediateLimit
  else if ra.val + imm8.toNat > 8 ∨ rb.val + imm8.toNat > 8 then some .msmRange
  else none

/-- What is wrong with the operands of a command, `none` when nothing is. -/
def Instr.defect : Instr → Option Illegal
  | .nop => none
  | .setPtr _ => none
  | .setLen _ => none
  | .clrErr => none
  | .scLdi _ _ => none
  | .scLd _ => none
  | .scSt _ => none
  | .scMov _ _ => none
  | .fpZero _ => none
  | .fpOne _ => none
  | .fpModulus _ => none
  | .fpMov _ _ => none
  | .fpLd _ => none
  | .fpSt _ => none
  | .fpFromSc _ _ => none
  | .fpToSc _ _ => none
  | .fpToMont _ _ => none
  | .fpFromMont _ _ => none
  | .fpAdd _ _ _ => none
  | .fpSub _ _ _ => none
  | .fpDouble _ _ => none
  | .fpNeg _ _ => none
  | .fpLAdd _ _ _ => none
  | .fpLDouble _ _ => none
  | .fpLSub _ _ _ => none
  | .fpMul _ _ _ => none
  | .fpSquare _ _ => none
  | .fpInv _ _ => none
  | .fpExp _ _ _ => none
  | .fpSqrt _ _ => none
  | .fpIsQnr _ => none
  | .fpMulNr _ _ => none
  | .fpCmp _ _ => none
  | .fpEq _ _ => none
  | .fpIsZero _ => none
  | .fpIsOne _ => none
  | .fpIsOdd _ => none
  | .fpIsEven _ => none
  | .fpIsValid _ => none
  | .fp3Zero _ => none
  | .fp3One _ => none
  | .fp3Mov _ _ => none
  | .fp3Ld _ => none
  | .fp3St _ => none
  | .fp3Set _ _ _ _ => none
  | .fp3Get _ _ imm8 => atMost 2 imm8
  | .fp3Add _ _ _ => none
  | .fp3Sub _ _ _ => none
  | .fp3Double _ _ => none
  | .fp3Neg _ _ => none
  | .fp3LAdd _ _ _ => none
  | .fp3Mul _ _ _ => none
  | .fp3Square _ _ => none
  | .fp3Inv _ _ => none
  | .fp3Exp _ _ _ => none
  | .fp3Frob _ _ _ => none
  | .fp3Mul0 _ _ _ => none
  | .fp3Eq _ _ => none
  | .fp3IsZero _ => none
  | .fp3IsOne _ => none
  | .fp6Zero _ => none
  | .fp6One _ => none
  | .fp6Mov _ _ => none
  | .fp6Ld _ => none
  | .fp6St _ => none
  | .fp6Set _ _ _ => none
  | .fp6Get _ _ imm8 => atMost 1 imm8
  | .fp6Add _ _ _ => none
  | .fp6Sub _ _ _ => none
  | .fp6Double _ _ => none
  | .fp6Neg _ _ => none
  | .fp6LAdd _ _ _ => none
  | .fp6Mul _ _ _ => none
  | .fp6Square _ _ => none
  | .fp6CycSq _ _ => none
  | .fp6Inv _ _ => none
  | .fp6Exp _ _ _ => none
  | .fp6Conj _ _ => none
  | .fp6Frob _ _ _ => none
  | .fp6Mul014 _ _ _ _ => none
  | .fp6Mul034 _ _ _ _ => none
  | .fp6Eq _ _ => none
  | .fp6IsZero _ => none
  | .fp6IsOne _ => none
  | .fp6IsValid _ => none
  | .g1Zero _ => none
  | .g1Gen _ => none
  | .g1Mov _ _ => none
  | .g1Ld _ => none
  | .g1St _ => none
  | .g1Set _ _ _ _ => none
  | .g1Get _ _ imm8 => atMost 2 imm8
  | .g1Add _ _ _ => none
  | .g1Double _ _ => none
  | .g1Neg _ _ => none
  | .g1Sub _ _ _ => none
  | .g1Affine _ _ => none
  | .g1IsOnCurve _ => none
  | .g1IsAffine _ => none
  | .g1IsInf _ => none
  | .g1Eq _ _ => none
  | .g1MulSc _ _ _ => none
  | .g1ClrCof _ _ => none
  | .g1Msm _ ra rb imm8 => msmOperands ra rb imm8
  | .g2Zero _ => none
  | .g2Gen _ => none
  | .g2Mov _ _ => none
  | .g2Ld _ => none
  | .g2St _ => none
  | .g2Set _ _ _ _ => none
  | .g2Get _ _ imm8 => atMost 2 imm8
  | .g2Add _ _ _ => none
  | .g2Double _ _ => none
  | .g2Neg _ _ => none
  | .g2Sub _ _ _ => none
  | .g2Affine _ _ => none
  | .g2IsOnCurve _ => none
  | .g2IsAffine _ => none
  | .g2IsInf _ => none
  | .g2Eq _ _ => none
  | .g2MulSc _ _ _ => none
  | .g2ClrCof _ _ => none
  | .g2Msm _ ra rb imm8 => msmOperands ra rb imm8
  | .g2InSub _ => none
  | .pairAdd _ _ => none
  | .pairAddInv _ _ => none
  | .pairReset => none
  | .pairResult _ => none
  | .pairCheck => none
  | .pairMiller _ => none
  | .fexp _ _ => none
  | .fexpEasy _ _ => none
  | .fexpHard _ _ => none

/-- A command the CORE can be given (R86, R88). -/
abbrev Instr.WellFormed (i : Instr) : Prop := i.defect = none

end Sys2Proof
end

