-- ==== Sys2Proof/Decode.lean ====
section
/-! DEFINITION. The decoder of R89 over the opcode map of R90, and the encoder of the formats R82 to R84. -/
namespace Sys2Proof

/-! ### The fields of a command word -/

/-- `opcode`, bits 31:24 (R82 to R84). -/
def opcodeOf (w : Word) : BitVec 8 := w.extractLsb' 24 8

/-- `rd`, bits 23:20 (R82, R84). -/
def rdOf (w : Word) : BitVec 4 := w.extractLsb' 20 4

/-- `ra`, bits 19:16 (R82). -/
def raOf (w : Word) : BitVec 4 := w.extractLsb' 16 4

/-- `rb`, bits 15:12 (R82). -/
def rbOf (w : Word) : BitVec 4 := w.extractLsb' 12 4

/-- `rc`, bits 11:8 (R82). -/
def rcOf (w : Word) : BitVec 4 := w.extractLsb' 8 4

/-- `imm8`, bits 7:0 (R82). -/
def imm8Of (w : Word) : BitVec 8 := w.extractLsb' 0 8

/-- `imm20`, bits 19:0 (R84). -/
def imm20Of (w : Word) : BitVec 20 := w.extractLsb' 0 20

/-- `imm24`, bits 23:0 (R83). -/
def imm24Of (w : Word) : BitVec 24 := w.extractLsb' 0 24

/-- The `FP` register a field names. -/
def fpIdx (field : BitVec 4) : FpIdx := field.toFin

/-- The register of an 8-register file a field names; the mask of its row has bit 3 of the field (R89). -/
def idx (field : BitVec 4) : Idx := ⟨field.toNat % 8, Nat.mod_lt _ (by decide)⟩

/-! ### The opcode map -/

/-- A row of the opcode map: `match` is the opcode in bits 31:24 and zero elsewhere (R89). -/
structure OpcodeRow where
  opcode : BitVec 8
  mask : Word
  make : Word → Instr

/-- `match` of a row (R89). -/
def OpcodeRow.pattern (r : OpcodeRow) : Word := r.opcode ++ (0 : BitVec 24)

/-- System and scalar commands (46_system.md). -/
def systemRows : List OpcodeRow := [
  ⟨0x00, 0xFFFFFFFF, fun _ => .nop⟩,
  ⟨0x01, 0xFF000000, fun w => .setPtr (imm24Of w)⟩,
  ⟨0x02, 0xFF000000, fun w => .setLen (imm24Of w)⟩,
  ⟨0x03, 0xFFFFFFFF, fun _ => .clrErr⟩,
  ⟨0x04, 0xFF800000, fun w => .scLdi (idx (rdOf w)) (imm20Of w)⟩,
  ⟨0x05, 0xFF8FFFFF, fun w => .scLd (idx (rdOf w))⟩,
  ⟨0x06, 0xFFF8FFFF, fun w => .scSt (idx (raOf w))⟩,
  ⟨0x07, 0xFF88FFFF, fun w => .scMov (idx (rdOf w)) (idx (raOf w))⟩]

/-- Base field commands (40_fp.md). -/
def fpRows : List OpcodeRow := [
  ⟨0x10, 0xFF0FFFFF, fun w => .fpZero (fpIdx (rdOf w))⟩,
  ⟨0x11, 0xFF0FFFFF, fun w => .fpOne (fpIdx (rdOf w))⟩,
  ⟨0x12, 0xFF0FFFFF, fun w => .fpModulus (fpIdx (rdOf w))⟩,
  ⟨0x13, 0xFF00FFFF, fun w => .fpMov (fpIdx (rdOf w)) (fpIdx (raOf w))⟩,
  ⟨0x14, 0xFF0FFFFF, fun w => .fpLd (fpIdx (rdOf w))⟩,
  ⟨0x15, 0xFFF0FFFF, fun w => .fpSt (fpIdx (raOf w))⟩,
  ⟨0x16, 0xFF08FFFF, fun w => .fpFromSc (fpIdx (rdOf w)) (idx (raOf w))⟩,
  ⟨0x17, 0xFF80FFFF, fun w => .fpToSc (idx (rdOf w)) (fpIdx (raOf w))⟩,
  ⟨0x18, 0xFF00FFFF, fun w => .fpToMont (fpIdx (rdOf w)) (fpIdx (raOf w))⟩,
  ⟨0x19, 0xFF00FFFF, fun w => .fpFromMont (fpIdx (rdOf w)) (fpIdx (raOf w))⟩,
  ⟨0x1A, 0xFF000FFF, fun w => .fpAdd (fpIdx (rdOf w)) (fpIdx (raOf w)) (fpIdx (rbOf w))⟩,
  ⟨0x1B, 0xFF000FFF, fun w => .fpSub (fpIdx (rdOf w)) (fpIdx (raOf w)) (fpIdx (rbOf w))⟩,
  ⟨0x1C, 0xFF00FFFF, fun w => .fpDouble (fpIdx (rdOf w)) (fpIdx (raOf w))⟩,
  ⟨0x1D, 0xFF00FFFF, fun w => .fpNeg (fpIdx (rdOf w)) (fpIdx (raOf w))⟩,
  ⟨0x1E, 0xFF000FFF, fun w => .fpLAdd (fpIdx (rdOf w)) (fpIdx (raOf w)) (fpIdx (rbOf w))⟩,
  ⟨0x1F, 0xFF00FFFF, fun w => .fpLDouble (fpIdx (rdOf w)) (fpIdx (raOf w))⟩,
  ⟨0x20, 0xFF000FFF, fun w => .fpLSub (fpIdx (rdOf w)) (fpIdx (raOf w)) (fpIdx (rbOf w))⟩,
  ⟨0x21, 0xFF000FFF, fun w => .fpMul (fpIdx (rdOf w)) (fpIdx (raOf w)) (fpIdx (rbOf w))⟩,
  ⟨0x22, 0xFF00FFFF, fun w => .fpSquare (fpIdx (rdOf w)) (fpIdx (raOf w))⟩,
  ⟨0x23, 0xFF00FFFF, fun w => .fpInv (fpIdx (rdOf w)) (fpIdx (raOf w))⟩,
  ⟨0x24, 0xFF008FFF, fun w => .fpExp (fpIdx (rdOf w)) (fpIdx (raOf w)) (idx (rbOf w))⟩,
  ⟨0x25, 0xFF00FFFF, fun w => .fpSqrt (fpIdx (rdOf w)) (fpIdx (raOf w))⟩,
  ⟨0x26, 0xFFF0FFFF, fun w => .fpIsQnr (fpIdx (raOf w))⟩,
  ⟨0x27, 0xFF00FFFF, fun w => .fpMulNr (fpIdx (rdOf w)) (fpIdx (raOf w))⟩,
  ⟨0x28, 0xFFF00FFF, fun w => .fpCmp (fpIdx (raOf w)) (fpIdx (rbOf w))⟩,
  ⟨0x29, 0xFFF00FFF, fun w => .fpEq (fpIdx (raOf w)) (fpIdx (rbOf w))⟩,
  ⟨0x2A, 0xFFF0FFFF, fun w => .fpIsZero (fpIdx (raOf w))⟩,
  ⟨0x2B, 0xFFF0FFFF, fun w => .fpIsOne (fpIdx (raOf w))⟩,
  ⟨0x2C, 0xFFF0FFFF, fun w => .fpIsOdd (fpIdx (raOf w))⟩,
  ⟨0x2D, 0xFFF0FFFF, fun w => .fpIsEven (fpIdx (raOf w))⟩,
  ⟨0x2E, 0xFFF0FFFF, fun w => .fpIsValid (fpIdx (raOf w))⟩]

/-- Cubic extension commands (41_fp3.md). -/
def fp3Rows : List OpcodeRow := [
  ⟨0x30, 0xFF8FFFFF, fun w => .fp3Zero (idx (rdOf w))⟩,
  ⟨0x31, 0xFF8FFFFF, fun w => .fp3One (idx (rdOf w))⟩,
  ⟨0x32, 0xFF88FFFF, fun w => .fp3Mov (idx (rdOf w)) (idx (raOf w))⟩,
  ⟨0x33, 0xFF8FFFFF, fun w => .fp3Ld (idx (rdOf w))⟩,
  ⟨0x34, 0xFFF8FFFF, fun w => .fp3St (idx (raOf w))⟩,
  ⟨0x35, 0xFF8000FF, fun w => .fp3Set (idx (rdOf w)) (fpIdx (raOf w)) (fpIdx (rbOf w)) (fpIdx (rcOf w))⟩,
  ⟨0x36, 0xFF08FF00, fun w => .fp3Get (fpIdx (rdOf w)) (idx (raOf w)) (imm8Of w)⟩,
  ⟨0x37, 0xFF888FFF, fun w => .fp3Add (idx (rdOf w)) (idx (raOf w)) (idx (rbOf w))⟩,
  ⟨0x38, 0xFF888FFF, fun w => .fp3Sub (idx (rdOf w)) (idx (raOf w)) (idx (rbOf w))⟩,
  ⟨0x39, 0xFF88FFFF, fun w => .fp3Double (idx (rdOf w)) (idx (raOf w))⟩,
  ⟨0x3A, 0xFF88FFFF, fun w => .fp3Neg (idx (rdOf w)) (idx (raOf w))⟩,
  ⟨0x3B, 0xFF888FFF, fun w => .fp3LAdd (idx (rdOf w)) (idx (raOf w)) (idx (rbOf w))⟩,
  ⟨0x3C, 0xFF888FFF, fun w => .fp3Mul (idx (rdOf w)) (idx (raOf w)) (idx (rbOf w))⟩,
  ⟨0x3D, 0xFF88FFFF, fun w => .fp3Square (idx (rdOf w)) (idx (raOf w))⟩,
  ⟨0x3E, 0xFF88FFFF, fun w => .fp3Inv (idx (rdOf w)) (idx (raOf w))⟩,
  ⟨0x3F, 0xFF888FFF, fun w => .fp3Exp (idx (rdOf w)) (idx (raOf w)) (idx (rbOf w))⟩,
  ⟨0x40, 0xFF88FF00, fun w => .fp3Frob (idx (rdOf w)) (idx (raOf w)) (imm8Of w)⟩,
  ⟨0x41, 0xFF888FFF, fun w => .fp3Mul0 (idx (rdOf w)) (idx (raOf w)) (idx (rbOf w))⟩,
  ⟨0x42, 0xFFF88FFF, fun w => .fp3Eq (idx (raOf w)) (idx (rbOf w))⟩,
  ⟨0x43, 0xFFF8FFFF, fun w => .fp3IsZero (idx (raOf w))⟩,
  ⟨0x44, 0xFFF8FFFF, fun w => .fp3IsOne (idx (raOf w))⟩]

/-- Sextic extension commands (42_fp6.md). -/
def fp6Rows : List OpcodeRow := [
  ⟨0x50, 0xFF8FFFFF, fun w => .fp6Zero (idx (rdOf w))⟩,
  ⟨0x51, 0xFF8FFFFF, fun w => .fp6One (idx (rdOf w))⟩,
  ⟨0x52, 0xFF88FFFF, fun w => .fp6Mov (idx (rdOf w)) (idx (raOf w))⟩,
  ⟨0x53, 0xFF8FFFFF, fun w => .fp6Ld (idx (rdOf w))⟩,
  ⟨0x54, 0xFFF8FFFF, fun w => .fp6St (idx (raOf w))⟩,
  ⟨0x55, 0xFF888FFF, fun w => .fp6Set (idx (rdOf w)) (idx (raOf w)) (idx (rbOf w))⟩,
  ⟨0x56, 0xFF88FF00, fun w => .fp6Get (idx (rdOf w)) (idx (raOf w)) (imm8Of w)⟩,
  ⟨0x57, 0xFF888FFF, fun w => .fp6Add (idx (rdOf w)) (idx (raOf w)) (idx (rbOf w))⟩,
  ⟨0x58, 0xFF888FFF, fun w => .fp6Sub (idx (rdOf w)) (idx (raOf w)) (idx (rbOf w))⟩,
  ⟨0x59, 0xFF88FFFF, fun w => .fp6Double (idx (rdOf w)) (idx (raOf w))⟩,
  ⟨0x5A, 0xFF88FFFF, fun w => .fp6Neg (idx (rdOf w)) (idx (raOf w))⟩,
  ⟨0x5B, 0xFF888FFF, fun w => .fp6LAdd (idx (rdOf w)) (idx (raOf w)) (idx (rbOf w))⟩,
  ⟨0x5C, 0xFF888FFF, fun w => .fp6Mul (idx (rdOf w)) (idx (raOf w)) (idx (rbOf w))⟩,
  ⟨0x5D, 0xFF88FFFF, fun w => .fp6Square (idx (rdOf w)) (idx (raOf w))⟩,
  ⟨0x5E, 0xFF88FFFF, fun w => .fp6CycSq (idx (rdOf w)) (idx (raOf w))⟩,
  ⟨0x5F, 0xFF88FFFF, fun w => .fp6Inv (idx (rdOf w)) (idx (raOf w))⟩,
  ⟨0x60, 0xFF888FFF, fun w => .fp6Exp (idx (rdOf w)) (idx (raOf w)) (idx (rbOf w))⟩,
  ⟨0x61, 0xFF88FFFF, fun w => .fp6Conj (idx (rdOf w)) (idx (raOf w))⟩,
  ⟨0x62, 0xFF88FF00, fun w => .fp6Frob (idx (rdOf w)) (idx (raOf w)) (imm8Of w)⟩,
  ⟨0x63, 0xFF8000FF, fun w => .fp6Mul014 (idx (rdOf w)) (fpIdx (raOf w)) (fpIdx (rbOf w)) (fpIdx (rcOf w))⟩,
  ⟨0x64, 0xFF8000FF, fun w => .fp6Mul034 (idx (rdOf w)) (fpIdx (raOf w)) (fpIdx (rbOf w)) (fpIdx (rcOf w))⟩,
  ⟨0x65, 0xFFF88FFF, fun w => .fp6Eq (idx (raOf w)) (idx (rbOf w))⟩,
  ⟨0x66, 0xFFF8FFFF, fun w => .fp6IsZero (idx (raOf w))⟩,
  ⟨0x67, 0xFFF8FFFF, fun w => .fp6IsOne (idx (raOf w))⟩,
  ⟨0x68, 0xFFF8FFFF, fun w => .fp6IsValid (idx (raOf w))⟩]

/-- G1 point commands (43_curve.md). -/
def g1Rows : List OpcodeRow := [
  ⟨0x70, 0xFF8FFFFF, fun w => .g1Zero (idx (rdOf w))⟩,
  ⟨0x71, 0xFF8FFFFF, fun w => .g1Gen (idx (rdOf w))⟩,
  ⟨0x72, 0xFF88FFFF, fun w => .g1Mov (idx (rdOf w)) (idx (raOf w))⟩,
  ⟨0x73, 0xFF8FFFFF, fun w => .g1Ld (idx (rdOf w))⟩,
  ⟨0x74, 0xFFF8FFFF, fun w => .g1St (idx (raOf w))⟩,
  ⟨0x75, 0xFF8000FF, fun w => .g1Set (idx (rdOf w)) (fpIdx (raOf w)) (fpIdx (rbOf w)) (fpIdx (rcOf w))⟩,
  ⟨0x76, 0xFF08FF00, fun w => .g1Get (fpIdx (rdOf w)) (idx (raOf w)) (imm8Of w)⟩,
  ⟨0x77, 0xFF888FFF, fun w => .g1Add (idx (rdOf w)) (idx (raOf w)) (idx (rbOf w))⟩,
  ⟨0x78, 0xFF88FFFF, fun w => .g1Double (idx (rdOf w)) (idx (raOf w))⟩,
  ⟨0x79, 0xFF88FFFF, fun w => .g1Neg (idx (rdOf w)) (idx (raOf w))⟩,
  ⟨0x7A, 0xFF888FFF, fun w => .g1Sub (idx (rdOf w)) (idx (raOf w)) (idx (rbOf w))⟩,
  ⟨0x7B, 0xFF88FFFF, fun w => .g1Affine (idx (rdOf w)) (idx (raOf w))⟩,
  ⟨0x7C, 0xFFF8FFFF, fun w => .g1IsOnCurve (idx (raOf w))⟩,
  ⟨0x7D, 0xFFF8FFFF, fun w => .g1IsAffine (idx (raOf w))⟩,
  ⟨0x7E, 0xFFF8FFFF, fun w => .g1IsInf (idx (raOf w))⟩,
  ⟨0x7F, 0xFFF88FFF, fun w => .g1Eq (idx (raOf w)) (idx (rbOf w))⟩]

/-- G1 scalar multiplication (44_msm.md). -/
def g1ScalarRows : List OpcodeRow := [
  ⟨0x80, 0xFF888FFF, fun w => .g1MulSc (idx (rdOf w)) (idx (raOf w)) (idx (rbOf w))⟩,
  ⟨0x81, 0xFF88FFFF, fun w => .g1ClrCof (idx (rdOf w)) (idx (raOf w))⟩,
  ⟨0x82, 0xFF888F00, fun w => .g1Msm (idx (rdOf w)) (idx (raOf w)) (idx (rbOf w)) (imm8Of w)⟩]

/-- G2 point commands (43_curve.md). -/
def g2Rows : List OpcodeRow := [
  ⟨0x90, 0xFF8FFFFF, fun w => .g2Zero (idx (rdOf w))⟩,
  ⟨0x91, 0xFF8FFFFF, fun w => .g2Gen (idx (rdOf w))⟩,
  ⟨0x92, 0xFF88FFFF, fun w => .g2Mov (idx (rdOf w)) (idx (raOf w))⟩,
  ⟨0x93, 0xFF8FFFFF, fun w => .g2Ld (idx (rdOf w))⟩,
  ⟨0x94, 0xFFF8FFFF, fun w => .g2St (idx (raOf w))⟩,
  ⟨0x95, 0xFF8000FF, fun w => .g2Set (idx (rdOf w)) (fpIdx (raOf w)) (fpIdx (rbOf w)) (fpIdx (rcOf w))⟩,
  ⟨0x96, 0xFF08FF00, fun w => .g2Get (fpIdx (rdOf w)) (idx (raOf w)) (imm8Of w)⟩,
  ⟨0x97, 0xFF888FFF, fun w => .g2Add (idx (rdOf w)) (idx (raOf w)) (idx (rbOf w))⟩,
  ⟨0x98, 0xFF88FFFF, fun w => .g2Double (idx (rdOf w)) (idx (raOf w))⟩,
  ⟨0x99, 0xFF88FFFF, fun w => .g2Neg (idx (rdOf w)) (idx (raOf w))⟩,
  ⟨0x9A, 0xFF888FFF, fun w => .g2Sub (idx (rdOf w)) (idx (raOf w)) (idx (rbOf w))⟩,
  ⟨0x9B, 0xFF88FFFF, fun w => .g2Affine (idx (rdOf w)) (idx (raOf w))⟩,
  ⟨0x9C, 0xFFF8FFFF, fun w => .g2IsOnCurve (idx (raOf w))⟩,
  ⟨0x9D, 0xFFF8FFFF, fun w => .g2IsAffine (idx (raOf w))⟩,
  ⟨0x9E, 0xFFF8FFFF, fun w => .g2IsInf (idx (raOf w))⟩,
  ⟨0x9F, 0xFFF88FFF, fun w => .g2Eq (idx (raOf w)) (idx (rbOf w))⟩]

/-- G2 scalar multiplication (44_msm.md). -/
def g2ScalarRows : List OpcodeRow := [
  ⟨0xA0, 0xFF888FFF, fun w => .g2MulSc (idx (rdOf w)) (idx (raOf w)) (idx (rbOf w))⟩,
  ⟨0xA1, 0xFF88FFFF, fun w => .g2ClrCof (idx (rdOf w)) (idx (raOf w))⟩,
  ⟨0xA2, 0xFF888F00, fun w => .g2Msm (idx (rdOf w)) (idx (raOf w)) (idx (rbOf w)) (imm8Of w)⟩,
  ⟨0xA3, 0xFFF8FFFF, fun w => .g2InSub (idx (raOf w))⟩]

/-- Pairing commands (45_pairing.md). -/
def pairingRows : List OpcodeRow := [
  ⟨0xB0, 0xFFF88FFF, fun w => .pairAdd (idx (raOf w)) (idx (rbOf w))⟩,
  ⟨0xB1, 0xFFF88FFF, fun w => .pairAddInv (idx (raOf w)) (idx (rbOf w))⟩,
  ⟨0xB2, 0xFFFFFFFF, fun _ => .pairReset⟩,
  ⟨0xB3, 0xFF8FFFFF, fun w => .pairResult (idx (rdOf w))⟩,
  ⟨0xB4, 0xFFFFFFFF, fun _ => .pairCheck⟩,
  ⟨0xB5, 0xFF8FFFFF, fun w => .pairMiller (idx (rdOf w))⟩,
  ⟨0xB6, 0xFF88FFFF, fun w => .fexp (idx (rdOf w)) (idx (raOf w))⟩,
  ⟨0xB7, 0xFF88FFFF, fun w => .fexpEasy (idx (rdOf w)) (idx (raOf w))⟩,
  ⟨0xB8, 0xFF88FFFF, fun w => .fexpHard (idx (rdOf w)) (idx (raOf w))⟩]

/-- The opcode map (R90). -/
def opcodeMap : List OpcodeRow :=
  systemRows ++ fpRows ++ fp3Rows ++ fp6Rows ++ g1Rows ++
    g1ScalarRows ++ g2Rows ++ g2ScalarRows ++ pairingRows

/-- `decode(word)` (R89), total on 32-bit words; an illegal word is refused with the first reason found. -/
def decode (w : Word) : Except Illegal Instr :=
  match opcodeMap.find? (fun r => r.opcode == opcodeOf w) with
  | none => .error .unassignedOpcode
  | some row =>
    if w &&& row.mask ≠ row.pattern then .error .fixedBits
    else
      match (row.make w).defect with
      | none => .ok (row.make w)
      | some why => .error why

/-- What the decoder reads from a table word of `nbits` bits. A command is exactly 32 bits (R81), so a word of more
is none; bits above `nbits` are 0. -/
def decodeTableWord (nbits w : Nat) : Option Instr :=
  if w % 2 ^ nbits < 2 ^ 32 then (decode (BitVec.ofNat 32 (w % 2 ^ nbits))).toOption else none

/-! ### The encoder -/

/-- Format R (R82). -/
def wordR (opcode : BitVec 8) (rd ra rb rc : BitVec 4) (imm8 : BitVec 8) : Word :=
  opcode ++ rd ++ ra ++ rb ++ rc ++ imm8

/-- Format S (R83). -/
def wordS (opcode : BitVec 8) (imm24 : BitVec 24) : Word := opcode ++ imm24

/-- Format I (R84). -/
def wordI (opcode : BitVec 8) (rd : BitVec 4) (imm20 : BitVec 20) : Word := opcode ++ rd ++ imm20

/-- The field that names an `FP` register. -/
def fpField (i : FpIdx) : BitVec 4 := BitVec.ofFin i

/-- The field that names a register of an 8-register file. -/
def field (i : Idx) : BitVec 4 := BitVec.ofNat 4 i.val

/-- The command word of a command; unused fields are 0 (R87). -/
def encode : Instr → Word
  | .nop => wordS 0x00 0
  | .setPtr imm24 => wordS 0x01 imm24
  | .setLen imm24 => wordS 0x02 imm24
  | .clrErr => wordS 0x03 0
  | .scLdi rd imm20 => wordI 0x04 (field rd) imm20
  | .scLd rd => wordR 0x05 (field rd) 0 0 0 0
  | .scSt ra => wordR 0x06 0 (field ra) 0 0 0
  | .scMov rd ra => wordR 0x07 (field rd) (field ra) 0 0 0
  | .fpZero rd => wordR 0x10 (fpField rd) 0 0 0 0
  | .fpOne rd => wordR 0x11 (fpField rd) 0 0 0 0
  | .fpModulus rd => wordR 0x12 (fpField rd) 0 0 0 0
  | .fpMov rd ra => wordR 0x13 (fpField rd) (fpField ra) 0 0 0
  | .fpLd rd => wordR 0x14 (fpField rd) 0 0 0 0
  | .fpSt ra => wordR 0x15 0 (fpField ra) 0 0 0
  | .fpFromSc rd ra => wordR 0x16 (fpField rd) (field ra) 0 0 0
  | .fpToSc rd ra => wordR 0x17 (field rd) (fpField ra) 0 0 0
  | .fpToMont rd ra => wordR 0x18 (fpField rd) (fpField ra) 0 0 0
  | .fpFromMont rd ra => wordR 0x19 (fpField rd) (fpField ra) 0 0 0
  | .fpAdd rd ra rb => wordR 0x1A (fpField rd) (fpField ra) (fpField rb) 0 0
  | .fpSub rd ra rb => wordR 0x1B (fpField rd) (fpField ra) (fpField rb) 0 0
  | .fpDouble rd ra => wordR 0x1C (fpField rd) (fpField ra) 0 0 0
  | .fpNeg rd ra => wordR 0x1D (fpField rd) (fpField ra) 0 0 0
  | .fpLAdd rd ra rb => wordR 0x1E (fpField rd) (fpField ra) (fpField rb) 0 0
  | .fpLDouble rd ra => wordR 0x1F (fpField rd) (fpField ra) 0 0 0
  | .fpLSub rd ra rb => wordR 0x20 (fpField rd) (fpField ra) (fpField rb) 0 0
  | .fpMul rd ra rb => wordR 0x21 (fpField rd) (fpField ra) (fpField rb) 0 0
  | .fpSquare rd ra => wordR 0x22 (fpField rd) (fpField ra) 0 0 0
  | .fpInv rd ra => wordR 0x23 (fpField rd) (fpField ra) 0 0 0
  | .fpExp rd ra rb => wordR 0x24 (fpField rd) (fpField ra) (field rb) 0 0
  | .fpSqrt rd ra => wordR 0x25 (fpField rd) (fpField ra) 0 0 0
  | .fpIsQnr ra => wordR 0x26 0 (fpField ra) 0 0 0
  | .fpMulNr rd ra => wordR 0x27 (fpField rd) (fpField ra) 0 0 0
  | .fpCmp ra rb => wordR 0x28 0 (fpField ra) (fpField rb) 0 0
  | .fpEq ra rb => wordR 0x29 0 (fpField ra) (fpField rb) 0 0
  | .fpIsZero ra => wordR 0x2A 0 (fpField ra) 0 0 0
  | .fpIsOne ra => wordR 0x2B 0 (fpField ra) 0 0 0
  | .fpIsOdd ra => wordR 0x2C 0 (fpField ra) 0 0 0
  | .fpIsEven ra => wordR 0x2D 0 (fpField ra) 0 0 0
  | .fpIsValid ra => wordR 0x2E 0 (fpField ra) 0 0 0
  | .fp3Zero rd => wordR 0x30 (field rd) 0 0 0 0
  | .fp3One rd => wordR 0x31 (field rd) 0 0 0 0
  | .fp3Mov rd ra => wordR 0x32 (field rd) (field ra) 0 0 0
  | .fp3Ld rd => wordR 0x33 (field rd) 0 0 0 0
  | .fp3St ra => wordR 0x34 0 (field ra) 0 0 0
  | .fp3Set rd ra rb rc => wordR 0x35 (field rd) (fpField ra) (fpField rb) (fpField rc) 0
  | .fp3Get rd ra imm8 => wordR 0x36 (fpField rd) (field ra) 0 0 imm8
  | .fp3Add rd ra rb => wordR 0x37 (field rd) (field ra) (field rb) 0 0
  | .fp3Sub rd ra rb => wordR 0x38 (field rd) (field ra) (field rb) 0 0
  | .fp3Double rd ra => wordR 0x39 (field rd) (field ra) 0 0 0
  | .fp3Neg rd ra => wordR 0x3A (field rd) (field ra) 0 0 0
  | .fp3LAdd rd ra rb => wordR 0x3B (field rd) (field ra) (field rb) 0 0
  | .fp3Mul rd ra rb => wordR 0x3C (field rd) (field ra) (field rb) 0 0
  | .fp3Square rd ra => wordR 0x3D (field rd) (field ra) 0 0 0
  | .fp3Inv rd ra => wordR 0x3E (field rd) (field ra) 0 0 0
  | .fp3Exp rd ra rb => wordR 0x3F (field rd) (field ra) (field rb) 0 0
  | .fp3Frob rd ra imm8 => wordR 0x40 (field rd) (field ra) 0 0 imm8
  | .fp3Mul0 rd ra rb => wordR 0x41 (field rd) (field ra) (field rb) 0 0
  | .fp3Eq ra rb => wordR 0x42 0 (field ra) (field rb) 0 0
  | .fp3IsZero ra => wordR 0x43 0 (field ra) 0 0 0
  | .fp3IsOne ra => wordR 0x44 0 (field ra) 0 0 0
  | .fp6Zero rd => wordR 0x50 (field rd) 0 0 0 0
  | .fp6One rd => wordR 0x51 (field rd) 0 0 0 0
  | .fp6Mov rd ra => wordR 0x52 (field rd) (field ra) 0 0 0
  | .fp6Ld rd => wordR 0x53 (field rd) 0 0 0 0
  | .fp6St ra => wordR 0x54 0 (field ra) 0 0 0
  | .fp6Set rd ra rb => wordR 0x55 (field rd) (field ra) (field rb) 0 0
  | .fp6Get rd ra imm8 => wordR 0x56 (field rd) (field ra) 0 0 imm8
  | .fp6Add rd ra rb => wordR 0x57 (field rd) (field ra) (field rb) 0 0
  | .fp6Sub rd ra rb => wordR 0x58 (field rd) (field ra) (field rb) 0 0
  | .fp6Double rd ra => wordR 0x59 (field rd) (field ra) 0 0 0
  | .fp6Neg rd ra => wordR 0x5A (field rd) (field ra) 0 0 0
  | .fp6LAdd rd ra rb => wordR 0x5B (field rd) (field ra) (field rb) 0 0
  | .fp6Mul rd ra rb => wordR 0x5C (field rd) (field ra) (field rb) 0 0
  | .fp6Square rd ra => wordR 0x5D (field rd) (field ra) 0 0 0
  | .fp6CycSq rd ra => wordR 0x5E (field rd) (field ra) 0 0 0
  | .fp6Inv rd ra => wordR 0x5F (field rd) (field ra) 0 0 0
  | .fp6Exp rd ra rb => wordR 0x60 (field rd) (field ra) (field rb) 0 0
  | .fp6Conj rd ra => wordR 0x61 (field rd) (field ra) 0 0 0
  | .fp6Frob rd ra imm8 => wordR 0x62 (field rd) (field ra) 0 0 imm8
  | .fp6Mul014 rd ra rb rc => wordR 0x63 (field rd) (fpField ra) (fpField rb) (fpField rc) 0
  | .fp6Mul034 rd ra rb rc => wordR 0x64 (field rd) (fpField ra) (fpField rb) (fpField rc) 0
  | .fp6Eq ra rb => wordR 0x65 0 (field ra) (field rb) 0 0
  | .fp6IsZero ra => wordR 0x66 0 (field ra) 0 0 0
  | .fp6IsOne ra => wordR 0x67 0 (field ra) 0 0 0
  | .fp6IsValid ra => wordR 0x68 0 (field ra) 0 0 0
  | .g1Zero rd => wordR 0x70 (field rd) 0 0 0 0
  | .g1Gen rd => wordR 0x71 (field rd) 0 0 0 0
  | .g1Mov rd ra => wordR 0x72 (field rd) (field ra) 0 0 0
  | .g1Ld rd => wordR 0x73 (field rd) 0 0 0 0
  | .g1St ra => wordR 0x74 0 (field ra) 0 0 0
  | .g1Set rd ra rb rc => wordR 0x75 (field rd) (fpField ra) (fpField rb) (fpField rc) 0
  | .g1Get rd ra imm8 => wordR 0x76 (fpField rd) (field ra) 0 0 imm8
  | .g1Add rd ra rb => wordR 0x77 (field rd) (field ra) (field rb) 0 0
  | .g1Double rd ra => wordR 0x78 (field rd) (field ra) 0 0 0
  | .g1Neg rd ra => wordR 0x79 (field rd) (field ra) 0 0 0
  | .g1Sub rd ra rb => wordR 0x7A (field rd) (field ra) (field rb) 0 0
  | .g1Affine rd ra => wordR 0x7B (field rd) (field ra) 0 0 0
  | .g1IsOnCurve ra => wordR 0x7C 0 (field ra) 0 0 0
  | .g1IsAffine ra => wordR 0x7D 0 (field ra) 0 0 0
  | .g1IsInf ra => wordR 0x7E 0 (field ra) 0 0 0
  | .g1Eq ra rb => wordR 0x7F 0 (field ra) (field rb) 0 0
  | .g1MulSc rd ra rb => wordR 0x80 (field rd) (field ra) (field rb) 0 0
  | .g1ClrCof rd ra => wordR 0x81 (field rd) (field ra) 0 0 0
  | .g1Msm rd ra rb imm8 => wordR 0x82 (field rd) (field ra) (field rb) 0 imm8
  | .g2Zero rd => wordR 0x90 (field rd) 0 0 0 0
  | .g2Gen rd => wordR 0x91 (field rd) 0 0 0 0
  | .g2Mov rd ra => wordR 0x92 (field rd) (field ra) 0 0 0
  | .g2Ld rd => wordR 0x93 (field rd) 0 0 0 0
  | .g2St ra => wordR 0x94 0 (field ra) 0 0 0
  | .g2Set rd ra rb rc => wordR 0x95 (field rd) (fpField ra) (fpField rb) (fpField rc) 0
  | .g2Get rd ra imm8 => wordR 0x96 (fpField rd) (field ra) 0 0 imm8
  | .g2Add rd ra rb => wordR 0x97 (field rd) (field ra) (field rb) 0 0
  | .g2Double rd ra => wordR 0x98 (field rd) (field ra) 0 0 0
  | .g2Neg rd ra => wordR 0x99 (field rd) (field ra) 0 0 0
  | .g2Sub rd ra rb => wordR 0x9A (field rd) (field ra) (field rb) 0 0
  | .g2Affine rd ra => wordR 0x9B (field rd) (field ra) 0 0 0
  | .g2IsOnCurve ra => wordR 0x9C 0 (field ra) 0 0 0
  | .g2IsAffine ra => wordR 0x9D 0 (field ra) 0 0 0
  | .g2IsInf ra => wordR 0x9E 0 (field ra) 0 0 0
  | .g2Eq ra rb => wordR 0x9F 0 (field ra) (field rb) 0 0
  | .g2MulSc rd ra rb => wordR 0xA0 (field rd) (field ra) (field rb) 0 0
  | .g2ClrCof rd ra => wordR 0xA1 (field rd) (field ra) 0 0 0
  | .g2Msm rd ra rb imm8 => wordR 0xA2 (field rd) (field ra) (field rb) 0 imm8
  | .g2InSub ra => wordR 0xA3 0 (field ra) 0 0 0
  | .pairAdd ra rb => wordR 0xB0 0 (field ra) (field rb) 0 0
  | .pairAddInv ra rb => wordR 0xB1 0 (field ra) (field rb) 0 0
  | .pairReset => wordR 0xB2 0 0 0 0 0
  | .pairResult rd => wordR 0xB3 (field rd) 0 0 0 0
  | .pairCheck => wordR 0xB4 0 0 0 0 0
  | .pairMiller rd => wordR 0xB5 (field rd) 0 0 0 0
  | .fexp rd ra => wordR 0xB6 (field rd) (field ra) 0 0 0
  | .fexpEasy rd ra => wordR 0xB7 (field rd) (field ra) 0 0 0
  | .fexpHard rd ra => wordR 0xB8 (field rd) (field ra) 0 0 0

end Sys2Proof
end

