-- ==== Sys2Proof/Machine/Params.lean ====
section
/-! DEFINITION. The parameter values the machine is configured with at reset (the published BW6-761 set that
93_implementation_defined.md lists). Log entry 4. -/
namespace Sys2Proof

/-- The published parameter set of 93_implementation_defined.md, entries U20 to U30, with `HARD_MULT` 1 (R305), the
generators that 95_test_vectors.md allows a reader to configure (U26), and the defaults of R11. No file gives a value
of `MSM_WINDOW`: 4 for every `n` is the model's own, DESIGN CHOICE, log entry 18.
PRESUMED (log entry 4): the source prints none of these values; unsafe for a claim that leans on a digit of one. -/
def Config.published : Config where
  pMod := 0x0122e824fb83ce0ad187c94004faff3eb926186a81d14688528275ef8087be41707ba638e584e91903cebaff25b423048689c8ed12f9fd9071dcd3dc73ebff2e98a116c25667a8f8160cf8aeeaf0a437e6913e6870000082f49d00000000008b
  rOrd := 0x01ae3a4617c510eac63b05c06ca1493b1a22d9f300f5138f1ef3622fba094800170b5d44300000008508c00000000001
  bG1 := 0x0122e824fb83ce0ad187c94004faff3eb926186a81d14688528275ef8087be41707ba638e584e91903cebaff25b423048689c8ed12f9fd9071dcd3dc73ebff2e98a116c25667a8f8160cf8aeeaf0a437e6913e6870000082f49d00000000008a
  bG2 := 4
  twist := .mType
  hG1 := 0xad1972339049ce762c77d5ac34cb12efc856a0853c9db94cc61c554757551c0c832ba4061000003b3de580000000007c
  hG2 := 0xad1972339049ce762c77d5ac34cb12efc856a0853c9db94cc61c554757551c0c832ba4061000003b3de5800000000075
  genG1 :=
    ⟨0x00d82cbf66753123ed25942ffadbec116b901330673728468b1653febae12aa13a5d68dc240a36cfbe185365abc6cb0cc5042c14be9179f0c6c05fc952c93a806d5316c2b601db66bd557011eb2c7dd0c1891418e3ce0e512da946c2ca98c56f,
     0x00a62fd67fdd91e327a96c02bc80385547a171b11241a2653b54d7359cd7569806b159fd05975390f644cd4d4d121918f1f84be0e364c557f196bd4095e732d987ca22009ba7577b80aaa35b641488679ed9ef0d43b32e776ad507137f20a2dd⟩
  genG2 :=
    ⟨0x00b57e4c181f2d61f9f68074b8b339da2da5cb0f398dad1a696575790f81a64889e99e92b694535070923045a2bd226be5a65f563e88e9f685b5f9b1d81e5d0cd3dcf42709ae8d9248fa04fc72b6a0ffca5c80d003fcfa9292828ee95ecacbb5,
     0x003f609c495a48128e3cf2bd0ab9787d1705d28490477bdabeead9e6fc7de49f3a6970349d49f707907d40fc3efcaa7732083a01be7f055989f11722dc140bf09ab25bf2f51d5bc9de212766cef77476ea0a2fd992d1d929ff03ddff74690c96⟩
  ateLoop1 := 0x8508c00000000002
  ateLoop2 := 0x23ed1347970dec008a442f991fffffffffffffffffffffff
  loop1Neg := false
  loop2Neg := false
  seed := 0x8508c00000000001
  hardMult := 1
  msmWindow := Vector.replicate 9 4
  dmemSize := 4096
  maxPairs := 16

end Sys2Proof
end

