-- ==== Sys2Proof/Machine/State.lean ====
section
/-! DEFINITION. The state of the CORE as plain data (10_state.md), the reasons a step can stop, and the state after
reset (R41, R351). -/
namespace Sys2Proof.Machine

/-- The data buffer: the bytes that differ from what an unlisted address reads as, by rising address (R37, R50). -/
abbrev Memory := List Host.Cell

/-- What the host can do to the CORE between two commands (R38, R350). Reading a control register or a byte changes
nothing and is no action. -/
inductive HostAction where
  /-- Present a command word (R80). -/
  | command (word : Word)
  /-- Write one byte of the data buffer. -/
  | write (addr : Nat) (byte : Byte)
  /-- Assert reset. -/
  | reset
  deriving DecidableEq, Repr

/-- The architectural state of R20, and three fields of the model's own: `host`, `draws`, `cfg`. `NPAIRS` is the
length of `pairs` (R36) and has no storage of its own. R11 and D2 leave the register counts `NFP`, `NFP3`, `NFP6`,
`NG1`, `NG2`, `NSC` open: fixing them at the defaults 16 and 8, and `SCBITS` at 768, is a DESIGN CHOICE, unsafe for a
CORE with fewer registers (log entry 17). -/
structure State where
  /-- `FP[0..15]` (R21). -/
  fp : Vector Fp 16
  /-- `FP3[0..7]` (R22). -/
  fp3 : Vector (CubicElt Fp) 8
  /-- `FP6[0..7]` (R23). -/
  fp6 : Vector (SexticElt Fp) 8
  /-- `G1[0..7]` (R24). -/
  g1 : Vector (Point Fp) 8
  /-- `G2[0..7]` (R25). -/
  g2 : Vector (Point Fp) 8
  /-- `SC[0..7]` (R26). -/
  sc : Vector Fp 8
  /-- `PAIRS`, oldest entry first (R29). -/
  pairs : List (Pair Fp)
  /-- `ERR` (R31, R32). -/
  err : BitVec 8
  /-- `ERRCMD` (R31). -/
  errcmd : Word
  /-- `ERRIDX` (R31). -/
  erridx : BitVec 64
  /-- `FLAG`: `B` in bit 0, `CMP` in bits 2:1 (R33). -/
  flag : BitVec 3
  /-- `DPTR` (R34). -/
  dptr : BitVec 24
  /-- `DLEN` (R34). -/
  dlen : BitVec 24
  /-- `CMDCNT` (R35). -/
  cmdcnt : BitVec 64
  /-- `DMEM` (R37). -/
  dmem : Memory
  /-- The model's own: what the host does next, oldest first (log entry 1). It is the host's, not the CORE's (R80). -/
  host : List HostAction
  /-- The model's own: how many free values have been taken (log entry 3). -/
  draws : Nat
  /-- The model's own place for the constants of R10 and R11; no step writes it (R353, log entry 2). -/
  cfg : Config
  deriving DecidableEq, Repr

/-- Why the machine stops. -/
inductive Fault where
  /-- Raised by `step` on a host write to an address of no byte of the data buffer (R50, R59). Safe: the spec gives
  the host no such move (R38). No command raises it. -/
  | hostWriteOutsideDmem
  deriving DecidableEq, Repr

/-- Why the model gives no meaning. -/
inductive Refusal where
  /-- Raised by `exec` for an instruction the model has no meaning for. Safe. No arm raises it now. -/
  | notModelled (mnemonic : String)
  deriving DecidableEq, Repr

/-- What a command or a step answers. -/
abbrev Result := Host.Outcome State Fault Refusal

/-- The machine right after reset (R41, R351): control registers 0 and the pair list empty, as the spec says.
The spec leaves the data registers and the data buffer unspecified; the model holds 0 in them
(DESIGN CHOICE, log entries 5 and 6, unsafe), and no statement rests on that. -/
def State.reset : State where
  fp := Vector.replicate 16 0
  fp3 := Vector.replicate 8 ⟨0, 0, 0⟩
  fp6 := Vector.replicate 8 ⟨⟨0, 0, 0⟩, ⟨0, 0, 0⟩⟩
  g1 := Vector.replicate 8 ⟨0, 0, 0⟩
  g2 := Vector.replicate 8 ⟨0, 0, 0⟩
  sc := Vector.replicate 8 0
  pairs := []
  err := 0
  errcmd := 0
  erridx := 0
  flag := 0
  dptr := 0
  dlen := 0
  cmdcnt := 0
  dmem := []
  host := []
  draws := 0
  cfg := Config.published

/-- `NPAIRS` (R31, R36): the 8-bit read-only view of the length of the pair list. -/
def State.npairs (s : State) : BitVec 8 := BitVec.ofNat 8 s.pairs.length

end Sys2Proof.Machine
end

