-- ==== Sys2Proof/Machine/Flags.lean ====
section
/-! DEFINITION. The two fields of `FLAG` (R33) and what the predicate commands and `FP.CMP` write into them. -/
namespace Sys2Proof.Machine

/-- `FLAG.B`, bit 0. -/
def flagB (f : BitVec 3) : Bool := f.getLsbD 0

/-- `FLAG.CMP`, bits 2:1. -/
def flagCmp (f : BitVec 3) : BitVec 2 := f.extractLsb' 1 2

/-- `FLAG` with `B` written and `CMP` kept. -/
def withFlagB (f : BitVec 3) (b : Bool) : BitVec 3 := flagCmp f ++ BitVec.ofBool b

/-- `FLAG` with `CMP` written and `B` kept. -/
def withFlagCmp (f : BitVec 3) (cmp : BitVec 2) : BitVec 3 := cmp ++ BitVec.ofBool (flagB f)

/-- The three-way result of two raw values: `sext_2` of 0, 1 or −1 (R33, R144). -/
def threeWay (x y : Fp) : BitVec 2 :=
  if x.toNat = y.toNat then 0b00 else if x.toNat > y.toNat then 0b01 else 0b11

end Sys2Proof.Machine
end

