-- ==== Sys2Proof/Machine/Memory.lean ====
section
/-! DEFINITION. The data buffer (20_memory.md): one byte, a byte string (R52, R53), and the canonical form. -/
namespace Sys2Proof.Machine

/-- What an address that no cell lists reads as. DESIGN CHOICE (log entry 6, unsafe): the spec leaves a byte that
nothing has written since reset unspecified (R41). -/
def unlistedByte : Byte := 0

/-- The byte at an address. -/
def readByte : Memory → Nat → Byte
  | [], _ => unlistedByte
  | (at', b) :: rest, a => if at' = a then b else readByte rest a

/-- Write one byte, keeping the canonical form. -/
def writeByte : Memory → Nat → Byte → Memory
  | [], a, b => if b = unlistedByte then [] else [(a, b)]
  | (at', old) :: rest, a, b =>
    if at' = a then (if b = unlistedByte then writeByte rest a b else (a, b) :: rest)
    else if at' < a ∨ b = unlistedByte then (at', old) :: writeByte rest a b
    else (a, b) :: (at', old) :: rest

/-- `MemRead(addr, n)` (R52). -/
def memRead (m : Memory) (addr n : Nat) : List Byte := (List.range n).map (fun i => readByte m (addr + i))

/-- `MemWrite(addr, n, s)` for the `n` bytes of `s` (R53). -/
def memWrite (m : Memory) : Nat → List Byte → Memory
  | _, [] => m
  | addr, b :: rest => memWrite (writeByte m addr b) (addr + 1) rest

/-- The canonical form: addresses strictly rising, no cell equal to what an unlisted address reads as. -/
abbrev Memory.wf (m : Memory) : Prop :=
  m.Pairwise (fun c d => c.1 < d.1) ∧ ∀ c ∈ m, c.2 ≠ unlistedByte

/-- Every listed address is one of the data buffer (R50). -/
abbrev Memory.within (m : Memory) (size : Nat) : Prop := ∀ c ∈ m, c.1 < size

end Sys2Proof.Machine
end

