-- ==== Sys2Proof/Machine/Field.lean ====
section
/-! DEFINITION. Arithmetic of the tower over denoted residues (R13): the base field, the cubic and the sextic
extension, the Montgomery forms, and the word-serial Montgomery product of R112. -/
namespace Sys2Proof

/-! ### Square-and-multiply -/

/-- The number of bits of the binary expansion of `n`. -/
def bitLen (n : Nat) : Nat := if n = 0 then 0 else n.log2 + 1

/-- The scan of R140 and R271 over the top `bits` bits of `e`: `dbl` for every bit, then `step` for a one. -/
def ladderGo {α : Type} (dbl step : α → α) (start : α) : Nat → Nat → α
  | 0, _ => start
  | bits + 1, e =>
    let acc := dbl (ladderGo dbl step start bits (e / 2))
    if e % 2 = 1 then step acc else acc

/-- The whole scan, from the most significant bit of `e`; no iteration when `e = 0` (R140, R271). -/
def ladder {α : Type} (dbl step : α → α) (start : α) (e : Nat) : α := ladderGo dbl step start (bitLen e) e

/-- `a^e mod m` by square-and-multiply. -/
def powMod (m a e : Nat) : Nat := ladder (fun acc => acc * acc % m) (fun acc => acc * a % m) (1 % m) e

/-! ### Component-wise operations -/

def CubicElt.map {α β : Type} (f : α → β) (a : CubicElt α) : CubicElt β := ⟨f a.c0, f a.c1, f a.c2⟩

def CubicElt.zipWith {α β γ : Type} (f : α → β → γ) (a : CubicElt α) (b : CubicElt β) : CubicElt γ :=
  ⟨f a.c0 b.c0, f a.c1 b.c1, f a.c2 b.c2⟩

def CubicElt.all {α : Type} (q : α → Bool) (a : CubicElt α) : Bool := q a.c0 && q a.c1 && q a.c2

def SexticElt.map {α β : Type} (f : α → β) (a : SexticElt α) : SexticElt β := ⟨a.a0.map f, a.a1.map f⟩

def SexticElt.zipWith {α β γ : Type} (f : α → β → γ) (a : SexticElt α) (b : SexticElt β) : SexticElt γ :=
  ⟨a.a0.zipWith f b.a0, a.a1.zipWith f b.a1⟩

def SexticElt.all {α : Type} (q : α → Bool) (a : SexticElt α) : Bool := a.a0.all q && a.a1.all q

def Point.map {α β : Type} (f : α → β) (a : Point α) : Point β := ⟨f a.x, f a.y, f a.z⟩

def Point.all {α : Type} (q : α → Bool) (a : Point α) : Bool := q a.x && q a.y && q a.z

namespace Config

variable (c : Config)

/-! ### The base field over residues -/

def add (a b : Nat) : Nat := (a + b) % c.pMod

def sub (a b : Nat) : Nat := (a + (c.pMod - b)) % c.pMod

def neg (a : Nat) : Nat := (c.pMod - a) % c.pMod

def mul (a b : Nat) : Nat := a * b % c.pMod

def sq (a : Nat) : Nat := c.mul a a

/-- `a^e mod p` (R140). -/
def pow (a e : Nat) : Nat := powMod c.pMod a e

/-- `a⁻¹ mod p` with `0⁻¹ = 0` (R139, R18): Fermat's power, since `p` is prime. -/
def inv (a : Nat) : Nat := c.pow a (c.pMod - 2)

/-- `BETA`, −4 mod `p` (R9). -/
def beta : Nat := c.neg (4 % c.pMod)

/-! ### Montgomery form -/

/-- `R⁻¹ mod p` for `R = 2^768` and an odd `p`: `(p + 1) / 2` is the inverse of 2. -/
def rInv : Nat := c.pow ((c.pMod + 1) / 2) 768

/-- `mont(x, y) = x·y·R⁻¹ mod p` (R112). -/
def mont (x y : Nat) : Nat := x * y * c.rInv % c.pMod

/-- `enc(a) = a·R mod p`, as a register value (R13). -/
def enc (a : Nat) : Fp := BitVec.ofNat 768 (a * 2 ^ 768 % c.pMod)

/-- `dec(x) = x·R⁻¹ mod p`, the residue a register value denotes (R13). -/
def dec (x : Fp) : Nat := x.toNat * c.rInv % c.pMod

/-- `ONE = R mod p` (R10). -/
def one : Fp := c.enc 1

/-- `R2 = R² mod p` (R10). -/
def r2 : Nat := 2 ^ 768 * 2 ^ 768 % c.pMod

/-- `INP = −p⁻¹ mod 2^64` (R10): the odd residues modulo `2^64` have exponent `2^62`. -/
def inp : Nat := (2 ^ 64 - powMod (2 ^ 64) (c.pMod % 2 ^ 64) (2 ^ 62 - 1)) % 2 ^ 64

/-- Limb `i` of an Fp value, limb 0 the least significant (R12). -/
def limb (x i : Nat) : Nat := x / 2 ^ (64 * i) % 2 ^ 64

/-- The word-serial reduction of R112 after its first `n` limbs: the running value `t`. -/
def montSerialGo (x y : Nat) : Nat → Nat
  | 0 => 0
  | n + 1 =>
    let t := montSerialGo x y n + limb x n * y
    let m := t % 2 ^ 64 * c.inp % 2 ^ 64
    (t + m * c.pMod) / 2 ^ 64

/-- The word-serial Montgomery product of R112, the limb-level reference for `mont`. No command reads it: R112
makes only its result normative. -/
def montSerial (x y : Nat) : Nat :=
  let t := c.montSerialGo x y 12
  if t ≥ c.pMod then t - c.pMod else t

/-! ### The cubic extension over residues -/

def zero3 : CubicElt Nat := ⟨0, 0, 0⟩

def one3 : CubicElt Nat := ⟨1 % c.pMod, 0, 0⟩

def add3 (a b : CubicElt Nat) : CubicElt Nat := a.zipWith c.add b

def sub3 (a b : CubicElt Nat) : CubicElt Nat := a.zipWith c.sub b

def neg3 (a : CubicElt Nat) : CubicElt Nat := a.map c.neg

/-- The product modulo `v³ = β` (R177). -/
def mul3 (a b : CubicElt Nat) : CubicElt Nat :=
  ⟨c.add (c.mul a.c0 b.c0) (c.mul c.beta (c.add (c.mul a.c1 b.c2) (c.mul a.c2 b.c1))),
   c.add (c.add (c.mul a.c0 b.c1) (c.mul a.c1 b.c0)) (c.mul c.beta (c.mul a.c2 b.c2)),
   c.add (c.add (c.mul a.c0 b.c2) (c.mul a.c1 b.c1)) (c.mul a.c2 b.c0)⟩

/-- The product by an element with only its component 0, a scalar (R182, R213). -/
def scale3 (k : Nat) (a : CubicElt Nat) : CubicElt Nat := a.map (fun t => c.mul t k)

/-- The product by `XI6 = v` (R191). -/
def mulXi (t : CubicElt Nat) : CubicElt Nat := ⟨c.mul c.beta t.c2, t.c0, t.c1⟩

/-- The norm-form inverse, `(0,0,0)` for `(0,0,0)` (R179). -/
def inv3 (a : CubicElt Nat) : CubicElt Nat :=
  let t0 := c.sub (c.sq a.c0) (c.mul c.beta (c.mul a.c1 a.c2))
  let t1 := c.sub (c.mul c.beta (c.sq a.c2)) (c.mul a.c0 a.c1)
  let t2 := c.sub (c.sq a.c1) (c.mul a.c0 a.c2)
  let n := c.add (c.mul a.c0 t0) (c.mul c.beta (c.add (c.mul a.c2 t1) (c.mul a.c1 t2)))
  c.scale3 (c.inv n) ⟨t0, t1, t2⟩

/-- `A^e` (R180). -/
def pow3 (a : CubicElt Nat) (e : Nat) : CubicElt Nat :=
  ladder (fun acc => c.mul3 acc acc) (fun acc => c.mul3 acc a) c.one3 e

/-- `ω = β^((p−1)/3)` (R162). -/
def omega : Nat := c.pow c.beta ((c.pMod - 1) / 3)

/-- `A^(p^k)` by the tables `FROB3_C1[j] = ω^j`, `FROB3_C2[j] = ω^(2j)`, `j = k mod 3` (R162, R181). -/
def frob3 (a : CubicElt Nat) (k : Nat) : CubicElt Nat :=
  let j := k % 3
  ⟨a.c0, c.mul a.c1 (c.pow c.omega j), c.mul a.c2 (c.pow c.omega (2 * j))⟩

/-! ### The sextic extension over residues -/

def zero6 : SexticElt Nat := ⟨zero3, zero3⟩

def one6 : SexticElt Nat := ⟨c.one3, zero3⟩

/-- The product modulo `w² = v` (R207). -/
def mul6 (a b : SexticElt Nat) : SexticElt Nat :=
  ⟨c.add3 (c.mul3 a.a0 b.a0) (c.mulXi (c.mul3 a.a1 b.a1)),
   c.add3 (c.mul3 a.a0 b.a1) (c.mul3 a.a1 b.a0)⟩

def sq6 (a : SexticElt Nat) : SexticElt Nat := c.mul6 a a

/-- Conjugate over norm, zero for zero (R210). -/
def inv6 (a : SexticElt Nat) : SexticElt Nat :=
  let n := c.sub3 (c.mul3 a.a0 a.a0) (c.mulXi (c.mul3 a.a1 a.a1))
  let m := c.inv3 n
  ⟨c.mul3 a.a0 m, c.neg3 (c.mul3 a.a1 m)⟩

/-- `A^e` (R211). -/
def pow6 (a : SexticElt Nat) (e : Nat) : SexticElt Nat :=
  ladder c.sq6 (fun acc => c.mul6 acc a) c.one6 e

/-- `(a0, −a1)` (R212). -/
def conj6 (a : SexticElt Nat) : SexticElt Nat := ⟨a.a0, c.neg3 a.a1⟩

/-- `ζ = β^((p−1)/6)` (R193). -/
def zeta : Nat := c.pow c.beta ((c.pMod - 1) / 6)

/-- `A^(p^k)` by the table `FROB6_C[j] = ζ^j`, `j = k mod 6` (R193, R213). -/
def frob6 (a : SexticElt Nat) (k : Nat) : SexticElt Nat :=
  let j := k % 6
  ⟨c.frob3 a.a0 j, c.scale3 (c.pow c.zeta j) (c.frob3 a.a1 j)⟩

/-- The sparse element with components 0, 1 and 4 (R214). -/
def sparse014 (x0 x1 x4 : Nat) : SexticElt Nat := ⟨⟨x0, x1, 0⟩, ⟨0, x4, 0⟩⟩

/-- The sparse element with components 0, 3 and 4 (R215). -/
def sparse034 (x0 x3 x4 : Nat) : SexticElt Nat := ⟨⟨x0, 0, 0⟩, ⟨x3, x4, 0⟩⟩

/-- Membership in the cyclotomic subgroup, `A^(p²−p+1) = 1` (R209). -/
def isCyclotomic (a : SexticElt Nat) : Bool := c.pow6 a (c.pMod * c.pMod - c.pMod + 1) == c.one6

/-! ### Register contents of the extensions -/

def enc3 (a : CubicElt Nat) : CubicElt Fp := a.map c.enc

def dec3 (a : CubicElt Fp) : CubicElt Nat := a.map c.dec

def enc6 (a : SexticElt Nat) : SexticElt Fp := a.map c.enc

def dec6 (a : SexticElt Fp) : SexticElt Nat := a.map c.dec

end Config
end Sys2Proof
end

