-- ==== Sys2Proof/Machine/Curve.lean ====
section
/-! DEFINITION. The two curves `y² = x³ + b` over residues: denotation and equivalence of triples (R221), the group
law (R222), the reference formulas in Jacobian coordinates (R224, R225), affine form (R226), the curve equation
(R228), scalar multiples (R270, R271). -/
namespace Sys2Proof.Config

variable (c : Config)

/-- The canonical infinity `(0, 1, 0)` (R27). -/
def infinity : Point Nat := ⟨0, 1 % c.pMod, 0⟩

/-- Two triples denote the same affine point or both infinity (R221). -/
def samePoint (s t : Point Nat) : Bool :=
  (s.z == 0 && t.z == 0) ||
  (s.z != 0 && t.z != 0 &&
    c.mul s.x (c.sq t.z) == c.mul t.x (c.sq s.z) &&
    c.mul s.y (c.mul t.z (c.sq t.z)) == c.mul t.y (c.mul s.z (c.sq s.z)))

/-- The curve equation in Jacobian form, true for infinity (R228). -/
def onCurve (b : Nat) (t : Point Nat) : Bool :=
  t.z == 0 || c.sq t.y == c.add (c.mul t.x (c.sq t.x)) (c.mul b (c.pow t.z 6))

/-- The affine point a triple denotes, `none` for infinity (R221). -/
def denote (t : Point Nat) : Option (Affine Nat) :=
  if t.z = 0 then none
  else
    let zi := c.inv t.z
    some ⟨c.mul t.x (c.sq zi), c.mul t.y (c.mul zi (c.sq zi))⟩

/-- `affine(P)`: the canonical triple of the point denoted (R226). -/
def affine (t : Point Nat) : Point Nat :=
  match c.denote t with
  | none => c.infinity
  | some a => ⟨a.x, a.y, 1 % c.pMod⟩

/-- The chord or tangent of slope `m` through `s` meets the curve again; the point below (R222). -/
def thirdPoint (m : Nat) (s t : Affine Nat) : Affine Nat :=
  let x3 := c.sub (c.sub (c.sq m) s.x) t.x
  ⟨x3, c.sub (c.mul m (c.sub s.x x3)) s.y⟩

/-- The group law over affine points, `none` the point at infinity (R222). The machine computes with the reference
formulas below; this is the law they have to denote. -/
def groupAdd : Option (Affine Nat) → Option (Affine Nat) → Option (Affine Nat)
  | none, t => t
  | s, none => s
  | some s, some t =>
    if s.x ≠ t.x then
      some (c.thirdPoint (c.mul (c.sub t.y s.y) (c.inv (c.sub t.x s.x))) s t)
    else if s.y = t.y ∧ s.y ≠ 0 then
      some (c.thirdPoint (c.mul (c.mul 3 (c.sq s.x)) (c.inv (c.mul 2 s.y))) s t)
    else none

/-- Reference doubling (R224), infinity unchanged (R271). -/
def double (t : Point Nat) : Point Nat :=
  if t.z = 0 then t
  else
    let a := c.sq t.x
    let b := c.sq t.y
    let cc := c.sq b
    let d := c.mul 2 (c.sub (c.sub (c.sq (c.add t.x b)) a) cc)
    let e := c.mul 3 a
    let f := c.sq e
    let x3 := c.sub f (c.mul 2 d)
    ⟨x3, c.sub (c.mul e (c.sub d x3)) (c.mul 8 cc), c.mul (c.mul 2 t.y) t.z⟩

/-- Reference addition (R225), with the operand at infinity and the equal-x branches of R227. -/
def addPoint (s t : Point Nat) : Point Nat :=
  if s.z = 0 then t
  else if t.z = 0 then s
  else
    let z1z1 := c.sq s.z
    let z2z2 := c.sq t.z
    let u1 := c.mul s.x z2z2
    let u2 := c.mul t.x z1z1
    let s1 := c.mul (c.mul s.y t.z) z2z2
    let s2 := c.mul (c.mul t.y s.z) z1z1
    if u1 = u2 then
      if s1 = s2 then c.double s else c.infinity
    else
      let h := c.sub u2 u1
      let i := c.sq (c.mul 2 h)
      let j := c.mul h i
      let r := c.mul 2 (c.sub s2 s1)
      let v := c.mul u1 i
      let x3 := c.sub (c.sub (c.sq r) j) (c.mul 2 v)
      ⟨x3, c.sub (c.mul r (c.sub v x3)) (c.mul 2 (c.mul s1 j)),
       c.mul (c.sub (c.sub (c.sq (c.add s.z t.z)) z1z1) z2z2) h⟩

/-- `−P` (R222, R239). -/
def negPoint (t : Point Nat) : Point Nat := ⟨t.x, c.neg t.y, t.z⟩

/-- `k·P` by double-and-add from the most significant bit (R270, R271). -/
def mulPoint (k : Nat) (t : Point Nat) : Point Nat :=
  ladder c.double (fun acc => c.addPoint acc t) c.infinity k

/-- The sum of the multiples of a list of points (R276): `T = O`, then `T = T + k·P` for each in order. -/
def sumMultiples (terms : List (Nat × Point Nat)) : Point Nat :=
  terms.foldl (fun acc term => c.addPoint acc (c.mulPoint term.1 term.2)) c.infinity

/-! ### The bucket method of `MultiExp` (R272)

R272 makes only its result normative, the sum above, so no command reads these definitions; they are the only place
where the spec uses `MSM_WINDOW`. -/

/-- `MSM_WINDOW(n)`, for the list lengths the MSM commands admit (R88). -/
def window (n : Nat) : Nat := if h : n < 9 then c.msmWindow[n] else 1

/-- `W[i]` of R272: the buckets of the `i`-th digits of `w` bits, combined by the running sum. -/
def windowSum (w i : Nat) (terms : List (Nat × Point Nat)) : Point Nat :=
  let bucket (d : Nat) : Point Nat :=
    terms.foldl (fun acc term => if term.1 >>> (i * w) % 2 ^ w = d then c.addPoint acc term.2 else acc) c.infinity
  ((List.range (2 ^ w - 1)).reverse.foldl (fun acc d =>
    let run := c.addPoint acc.1 (bucket (d + 1))
    (run, c.addPoint acc.2 run)) (c.infinity, c.infinity)).2

/-- `NW`, the number of windows of `w` bits (R272). -/
def windowCount (w : Nat) : Nat := (bitLen c.rOrd + w - 1) / w + 1

/-- The bucket method of R272: the windows from the highest down, `w` doublings between two. The doublings before the
first window double infinity and leave it. -/
def bucketSum (terms : List (Nat × Point Nat)) : Point Nat :=
  let w := c.window terms.length
  (List.range (c.windowCount w)).reverse.foldl
    (fun acc i => c.addPoint (Nat.repeat c.double w acc) (c.windowSum w i terms)) c.infinity

/-- `P` is on the curve and `r·P = O` (R280, R308). -/
def inSubgroup (b : Nat) (t : Point Nat) : Bool := c.onCurve b t && (c.mulPoint c.rOrd t).z == 0

end Sys2Proof.Config
end

