-- ==== Sys2Proof/Machine/Pairing.lean ====
section
/-! DEFINITION. The pairing over residues: the loop digits (R294, R295), the doubling and addition steps (R298,
R299), the line evaluation (R301), the Miller loop (R296), the final exponentiation (R303 to R305). -/
namespace Sys2Proof

/-- A digit of a Miller loop counter (R12, R295). -/
inductive Digit where
  | zero
  | plus
  | minus
  deriving DecidableEq, Repr

/-- The value of a digit. -/
def Digit.toInt : Digit → Int
  | .zero => 0
  | .plus => 1
  | .minus => -1

/-- The bits of `n` below its top bit, most significant first, as digits (R294). -/
def bitsBelowTop (n : Nat) : List Digit :=
  (List.range (bitLen n - 1)).reverse.map (fun i => if n.testBit i then .plus else .zero)

/-- The digits of R295 with at most `fuel` rounds. -/
def nafGo : Nat → Nat → List Digit
  | 0, _ => []
  | fuel + 1, n =>
    if n < 2 then []
    else if n % 2 = 0 then .zero :: nafGo fuel (n / 2)
    else if n % 4 = 1 then .plus :: nafGo fuel ((n - 1) / 2)
    else .minus :: nafGo fuel ((n + 1) / 2)

/-- `NAF(n)`, least significant digit first, the leading 1 not emitted (R295). Every round takes off a bit, so
`bitLen n` rounds suffice. -/
def naf (n : Nat) : List Digit := nafGo (bitLen n) n

namespace Config

variable (c : Config)

/-- The three coefficients by role: constant, of `px`, of `py` (R300). -/
structure Line where
  konst : Nat
  ofPx : Nat
  ofPy : Nat
  deriving DecidableEq, Repr

/-- The doubled running point and the line of a doubling step (R298). -/
def doublingStep (t : Point Nat) : Point Nat × Line :=
  let a := c.mul t.x t.y
  let b := c.sq t.y
  let cc := c.sq t.z
  let e := c.mul 3 (c.mul c.bG2 cc)
  let f := c.mul 3 e
  let g := c.add b f
  let h := c.sub (c.sq (c.add t.y t.z)) (c.add b cc)
  let i := c.sub e b
  let j := c.sq t.x
  (⟨c.mul (c.mul 2 a) (c.sub b f), c.sub (c.sq g) (c.mul 3 (c.sq (c.mul 2 e))), c.mul (c.mul 4 b) h⟩,
   ⟨i, c.mul 3 j, c.neg h⟩)

/-- The running point plus an affine point, and the line of an addition step (R299). -/
def additionStep (t : Point Nat) (qx qy : Nat) : Point Nat × Line :=
  let th := c.sub t.y (c.mul qy t.z)
  let la := c.sub t.x (c.mul qx t.z)
  let cc := c.sq th
  let d := c.sq la
  let e := c.mul la d
  let f := c.mul t.z cc
  let g := c.mul t.x d
  let h := c.sub (c.add e f) (c.mul 2 g)
  (⟨c.mul la h, c.sub (c.mul th (c.sub g h)) (c.mul e t.y), c.mul t.z e⟩,
   ⟨c.sub (c.mul th qx) (c.mul la qy), c.neg th, la⟩)

/-- The line at a G1 point as a sparse element: components 0, 1, 4 for an M-type twist, 0, 3, 4 for a D-type twist
(R300, R301). -/
def lineAt (l : Line) (px py : Nat) : SexticElt Nat :=
  match c.twist with
  | .mType => sparse014 l.konst (c.mul l.ofPx px) (c.mul l.ofPy py)
  | .dType => sparse034 (c.mul l.ofPy py) (c.mul l.ofPx px) l.konst

/-- `ell(f, co, px, py)` (R301). -/
def ell (f : SexticElt Nat) (l : Line) (px py : Nat) : SexticElt Nat := c.mul6 f (c.lineAt l px py)

/-- One digit of a loop for one pair: always a doubling step, then an addition step for a non-zero digit (R296). -/
def pairStep (d : Digit) (k : Pair Nat) (f : SexticElt Nat) (t : Point Nat) : SexticElt Nat × Point Nat :=
  let (t1, l1) := c.doublingStep t
  let f1 := c.ell f l1 k.px k.py
  let added (qy : Nat) : SexticElt Nat × Point Nat :=
    let (t2, l2) := c.additionStep t1 k.qx qy
    (c.ell f1 l2 k.px k.py, t2)
  match d with
  | .zero => (f1, t1)
  | .plus => added k.qy
  | .minus => added (c.neg k.qy)

/-- One digit of a loop for every pair in list order, each with its running point. -/
def allPairs (d : Digit) : SexticElt Nat → List (Pair Nat × Point Nat) → SexticElt Nat × List (Pair Nat × Point Nat)
  | f, [] => (f, [])
  | f, (k, t) :: rest =>
    let (f1, t1) := c.pairStep d k f t
    let (f2, rest2) := allPairs d f1 rest
    (f2, (k, t1) :: rest2)

/-- One loop of R296 over its digits, most significant first: square, then every pair. -/
def millerLoop (digits : List Digit) (pairs : List (Pair Nat)) : SexticElt Nat :=
  (digits.foldl (fun acc d => c.allPairs d (c.sq6 acc.1) acc.2)
    (c.one6, pairs.map (fun k => (k, ⟨k.qx, k.qy, 1 % c.pMod⟩)))).1

/-- How many coefficient triples the two loops make for one G2 point: one a digit, one more a non-zero digit (R297). -/
def lineTriples : Nat :=
  let count (digits : List Digit) : Nat := digits.length + (digits.filter (· ≠ .zero)).length
  count (bitsBelowTop c.ateLoop1) + count (naf c.ateLoop2)

/-- `miller(PAIRS)` (R296). -/
def miller (pairs : List (Pair Nat)) : SexticElt Nat :=
  let f1 := c.millerLoop (bitsBelowTop c.ateLoop1) pairs
  let f2 := c.frob6 (c.millerLoop (naf c.ateLoop2).reverse pairs) 1
  let f1 := if c.loop1Neg then c.conj6 f1 else f1
  let f2 := if c.loop2Neg then c.conj6 f2 else f2
  c.mul6 f1 f2

/-- The easy part (R304). -/
def easyPart (f : SexticElt Nat) : SexticElt Nat :=
  let t := c.mul6 (c.conj6 f) (c.inv6 f)
  c.mul6 (c.frob6 t 1) t

/-- The exponent of the hard part (R305). -/
def hardExponent : Nat := c.hardMult * ((c.pMod * c.pMod - c.pMod + 1) / c.rOrd)

/-- The hard part on the cyclotomic subgroup (R305, R306). -/
def hardPart (g : SexticElt Nat) : SexticElt Nat := c.pow6 g c.hardExponent

/-- The powers `f_0 = g`, `f_(i+1) = f_i^SEED` that the source's chain for the hard part starts from (R306). The chain
itself is not printed and only its total exponent shows, so `hardPart` is that one exponentiation and no command reads
this definition; it is the only place where the spec uses `SEED`. -/
def chainPower (g : SexticElt Nat) : Nat → SexticElt Nat
  | 0 => g
  | i + 1 => c.pow6 (chainPower g i) c.seed

/-- The Frobenius twists `f_ip = frob6(f_i, 1)` of the chain (R306). -/
def chainTwist (g : SexticElt Nat) (i : Nat) : SexticElt Nat := c.frob6 (c.chainPower g i) 1

/-- `fexp(f) = hard(easy(f))` (R303). -/
def finalExp (f : SexticElt Nat) : SexticElt Nat := c.hardPart (c.easyPart f)

/-- `pairing(PAIRS)`, one for the empty list (R291). -/
def pairing (pairs : List (Pair Nat)) : SexticElt Nat :=
  if pairs.isEmpty then c.one6 else c.finalExp (c.miller pairs)

/-- The pairing value of an entry is specified: both its points have order dividing `r` (R308). -/
def pairInDomain (k : Pair Nat) : Bool :=
  c.inSubgroup c.bG1 ⟨k.px, k.py, 1 % c.pMod⟩ && c.inSubgroup c.bG2 ⟨k.qx, k.qy, 1 % c.pMod⟩

end Config
end Sys2Proof
end

