-- ==== Sys2Proof/Machine/Operands.lean ====
section
/-! DEFINITION. The operand domains (R17, R111, R161, R192, R223), the byte encodings of values (R55, R61 to R65),
and the choice of a drawn value (R19). -/
namespace Sys2Proof.Machine

/-! ### Domains -/

/-- *valid*: `x < p` (R13, R111). -/
def valid (c : Config) (x : Fp) : Bool := decide (x.toNat < c.pMod)

/-- *lazy-ok*: `x < 2p` (R111). -/
def lazyOk (c : Config) (x : Fp) : Bool := decide (x.toNat < 2 * c.pMod)

/-- The domain of the point commands: valid components, and infinity or on the curve (R223). -/
def pointOk (c : Config) (b : Nat) (t : Point Fp) : Bool := t.all (valid c) && c.onCurve b (t.map c.dec)

/-- A command's result when its operands are in domain; `none` stands for a `draw` of the right shape (R17). -/
def inDomain {α : Type} (ok : Bool) (value : α) : Option α := if ok then some value else none

/-- `draw(S)`: the free value where it is a member of `S`, else a named member; every member can come out and
nothing else (R19). -/
def draw {α : Type} (member : α → Bool) (named free : α) : α := if member free then free else named

/-! ### Byte encodings -/

/-- `be(s)`: the first byte most significant (R18). -/
def be (s : List Byte) : Nat := s.foldl (fun acc b => acc * 256 + b.toNat) 0

/-- `bytes_N(v)` (R18). -/
def bytesOf : Nat → Nat → List Byte
  | 0, _ => []
  | n + 1, v => bytesOf n (v / 256) ++ [BitVec.ofNat 8 v]

/-- The 96 bytes of a raw value (R62). -/
def fpBytes (x : Fp) : List Byte := bytesOf 96 x.toNat

/-- The raw value of 96 bytes, the component at position `i` of a longer string (R61). -/
def fpAt (s : List Byte) (i : Nat) : Fp := BitVec.ofNat 768 (be ((s.drop (96 * i)).take 96))

/-- `c0`, `c1`, `c2` in this order (R63). -/
def cubicBytes (t : CubicElt Fp) : List Byte := fpBytes t.c0 ++ fpBytes t.c1 ++ fpBytes t.c2

/-- `a0` then `a1` (R64). -/
def sexticBytes (t : SexticElt Fp) : List Byte := cubicBytes t.a0 ++ cubicBytes t.a1

/-- The decode of 288 bytes (R63, R168). -/
def cubicAt (s : List Byte) (i : Nat) : CubicElt Fp := ⟨fpAt s i, fpAt s (i + 1), fpAt s (i + 2)⟩

/-- The decode of 576 bytes (R64, R198). -/
def sexticAt (s : List Byte) : SexticElt Fp := ⟨cubicAt s 0, cubicAt s 3⟩

/-- The 192 bytes of a point: zeros for infinity, else the affine `x ‖ y` (R65, R234). -/
def pointBytes (c : Config) (t : Point Fp) : List Byte :=
  match c.denote (t.map c.dec) with
  | none => List.replicate 192 0
  | some a => fpBytes (c.enc a.x) ++ fpBytes (c.enc a.y)

/-- The decode of 192 bytes; `none` stands for `NotOnCurveError` (R65, R233). -/
def pointOfBytes (c : Config) (b : Nat) (s : List Byte) : Option (Point Fp) :=
  if s.all (· == 0) then some ⟨0, c.one, 0⟩
  else
    let x := (fpAt s 0).toNat
    let y := (fpAt s 1).toNat
    if x ≥ c.pMod ∨ y ≥ c.pMod then none
    else if c.mont y y ≠ (c.mont (c.mont x x) x + (c.enc b).toNat) % c.pMod then none
    else some ⟨fpAt s 0, fpAt s 1, c.one⟩

/-! ### Fully reduced arithmetic on raw values -/

/-- R130 on raw values. -/
def rawAdd (c : Config) (x y : Fp) : Fp := BitVec.ofNat 768 ((x.toNat + y.toNat) % c.pMod)

/-- R131 on raw values. -/
def rawSub (c : Config) (x y : Fp) : Fp := BitVec.ofNat 768 ((x.toNat + (c.pMod - y.toNat)) % c.pMod)

/-- R132 on raw values. -/
def rawDouble (c : Config) (x : Fp) : Fp := BitVec.ofNat 768 (2 * x.toNat % c.pMod)

/-- R133 on raw values. -/
def rawNeg (c : Config) (x : Fp) : Fp := if x = 0 then 0 else BitVec.ofNat 768 (c.pMod - x.toNat)

/-- The set a lazy result is drawn from: `v < 2p` and `v ≡ exact (mod p)` (R134 to R136). -/
def isLazyOf (c : Config) (exact : Nat) (v : Fp) : Bool :=
  decide (v.toNat < 2 * c.pMod) && v.toNat % c.pMod == exact % c.pMod

/-- A lazy sum (R134); the named member is the sum without reduction. -/
def lazyAdd (c : Config) (x y free : Fp) : Fp :=
  draw (isLazyOf c (x.toNat + y.toNat)) (BitVec.ofNat 768 (x.toNat + y.toNat)) free

end Sys2Proof.Machine
end

