-- ==== Sys2Proof/Machine/Ops.lean ====
section
/-! DEFINITION. The named operations over the state: register files, drawn results, `FLAG`, the completion of a
command, error entry and return (R333, R338), the shared parts of the load and store commands (R54). -/
namespace Sys2Proof.Machine

/-! ### Completion, error entry and return -/

/-- The errors and their codes (R331). -/
inductive CoreError where
  | formatError
  | notOnCurveError
  | illegalCommand
  | dmemRange
  | pairListFull
  deriving DecidableEq, Repr

/-- The value `ERR` takes (R331). -/
def errorCode : CoreError → BitVec 8
  | .formatError => 1
  | .notOnCurveError => 2
  | .illegalCommand => 3
  | .dmemRange => 4
  | .pairListFull => 5

/-- A command completes: `CMDCNT` counts it (R35). -/
def complete (s : State) : Result := .next { s with cmdcnt := s.cmdcnt + 1 }

/-- Error entry (R333): the first error since `CLRERR` or reset is recorded, a later one is not; then the command
is counted. Nothing else changes. -/
def raise (e : CoreError) (command : Word) (s : State) : Result :=
  complete (if s.err = 0 then { s with err := errorCode e, errcmd := command, erridx := s.cmdcnt } else s)

/-- The return from the error state (R323, R338). -/
def clearError (s : State) : State := { s with err := 0, errcmd := 0, erridx := 0 }

/-! ### Register files -/

/-- The two point register files (R220). -/
inductive CurveGroup where
  | g1
  | g2
  deriving DecidableEq, Repr

def State.getFp (s : State) (i : FpIdx) : Fp := s.fp.get i

def State.getFp3 (s : State) (i : Idx) : CubicElt Fp := s.fp3.get i

def State.getFp6 (s : State) (i : Idx) : SexticElt Fp := s.fp6.get i

def State.getSc (s : State) (i : Idx) : Fp := s.sc.get i

def State.getPoint (s : State) : CurveGroup → Idx → Point Fp
  | .g1, i => s.g1.get i
  | .g2, i => s.g2.get i

def State.setFp (s : State) (i : FpIdx) (v : Fp) : State := { s with fp := s.fp.set i.val v i.isLt }

def State.setFp3 (s : State) (i : Idx) (v : CubicElt Fp) : State := { s with fp3 := s.fp3.set i.val v i.isLt }

def State.setFp6 (s : State) (i : Idx) (v : SexticElt Fp) : State := { s with fp6 := s.fp6.set i.val v i.isLt }

def State.setSc (s : State) (i : Idx) (v : Fp) : State := { s with sc := s.sc.set i.val v i.isLt }

def State.setPoint (s : State) : CurveGroup → Idx → Point Fp → State
  | .g1, i, v => { s with g1 := s.g1.set i.val v i.isLt }
  | .g2, i, v => { s with g2 := s.g2.set i.val v i.isLt }

/-- The constant `b` of a group's curve (R220). -/
def curveB (c : Config) : CurveGroup → Nat
  | .g1 => c.bG1
  | .g2 => c.bG2

/-- The generator of a group (R231, R251). -/
def generator (c : Config) : CurveGroup → Affine Nat
  | .g1 => c.genG1
  | .g2 => c.genG2

/-- The cofactor of a group (R275, R278). -/
def cofactor (c : Config) : CurveGroup → Nat
  | .g1 => c.hG1
  | .g2 => c.hG2

/-! ### Free values and drawn results -/

/-- The `k`-th free value a command takes (R19). -/
def State.free (s : State) (k : Nat) : Fp := Config.freeValue (s.draws + k)

def State.freeCubic (s : State) (k : Nat) : CubicElt Fp := ⟨s.free k, s.free (k + 1), s.free (k + 2)⟩

def State.freeSextic (s : State) : SexticElt Fp := ⟨s.freeCubic 0, s.freeCubic 3⟩

def State.freePoint (s : State) : Point Fp := ⟨s.free 0, s.free 1, s.free 2⟩

/-- The free values a command took are not taken again. -/
def State.spend (s : State) (k : Nat) : State := { s with draws := s.draws + k }

/-- A result into an `FP` register, a `draw` of its full range for `none` (R17). -/
def State.putFp (s : State) (rd : FpIdx) : Option Fp → State
  | some v => s.setFp rd v
  | none => (s.setFp rd (s.free 0)).spend 1

/-- A result into an `FP3` register (R17). -/
def State.putFp3 (s : State) (rd : Idx) : Option (CubicElt Fp) → State
  | some v => s.setFp3 rd v
  | none => (s.setFp3 rd (s.freeCubic 0)).spend 3

/-- A result into an `FP6` register (R17). -/
def State.putFp6 (s : State) (rd : Idx) : Option (SexticElt Fp) → State
  | some v => s.setFp6 rd v
  | none => (s.setFp6 rd s.freeSextic).spend 6

/-- A result into a point register (R17). -/
def State.putPoint (s : State) (g : CurveGroup) (rd : Idx) : Option (Point Fp) → State
  | some v => s.setPoint g rd v
  | none => (s.setPoint g rd s.freePoint).spend 3

/-- `FLAG.B` written (R33). -/
def State.setB (s : State) (b : Bool) : State := { s with flag := withFlagB s.flag b }

/-- `FLAG.CMP` written (R33). -/
def State.setCmp (s : State) (cmp : BitVec 2) : State := { s with flag := withFlagCmp s.flag cmp }

/-- An answer into `FLAG.B`, a drawn bit for `none` (R17). -/
def State.putB (s : State) : Option Bool → State
  | some b => s.setB b
  | none => (s.setB ((s.free 0).getLsbD 0)).spend 1

/-- The class of a point: triples of valid components that denote it (R221, R227). -/
def inClass (c : Config) (t : Point Nat) (v : Point Fp) : Bool :=
  v.all (valid c) && c.samePoint (v.map c.dec) t

/-- `draw(class(T))` into a point register; the named member is the triple `t` itself (R227). -/
def State.drawPoint (s : State) (g : CurveGroup) (rd : Idx) (t : Point Nat) : State :=
  (s.setPoint g rd (draw (inClass s.cfg t) (t.map s.cfg.enc) s.freePoint)).spend 3

/-- A point result: `draw(class(T))` in domain, a `draw` of the full range for `none` (R223, R227). -/
def State.putClass (s : State) (g : CurveGroup) (rd : Idx) : Option (Point Nat) → State
  | some t => s.drawPoint g rd t
  | none => s.putPoint g rd none

/-! ### Loads and stores -/

/-- The common part of the load commands: the address range, then the length, then the string (R54, R336). -/
def loadString (command : Word) (lengthOk : Nat → Bool) (s : State) (decodeWith : List Byte → Result) : Result :=
  if s.dptr.toNat + s.dlen.toNat > s.cfg.dmemSize then raise .dmemRange command s
  else if lengthOk s.dlen.toNat then decodeWith (memRead s.dmem s.dptr.toNat s.dlen.toNat)
  else raise .formatError command s

/-- The common part of the store commands (R54). -/
def storeString (command : Word) (bytes : List Byte) (s : State) : Result :=
  if s.dptr.toNat + bytes.length > s.cfg.dmemSize then raise .dmemRange command s
  else complete { s with dmem := memWrite s.dmem s.dptr.toNat bytes }

end Sys2Proof.Machine
end

