-- ==== Sys2Proof/Machine/BaseField.lean ====
section
/-! DEFINITION. The base field commands (40_fp.md). -/
namespace Sys2Proof.Machine

/-! ### Constants and moves -/

/-- R120. -/
def execFpZero (rd : FpIdx) (s : State) : Result := complete (s.setFp rd 0)

/-- R121. -/
def execFpOne (rd : FpIdx) (s : State) : Result := complete (s.setFp rd s.cfg.one)

/-- R122. -/
def execFpModulus (rd : FpIdx) (s : State) : Result := complete (s.setFp rd (BitVec.ofNat 768 s.cfg.pMod))

/-- R123. -/
def execFpMov (rd ra : FpIdx) (s : State) : Result := complete (s.setFp rd (s.getFp ra))

/-- R124: at most 96 bytes are padded on the left; the value of more is drawn (R61). -/
def execFpLd (rd : FpIdx) (s : State) : Result :=
  loadString (encode (.fpLd rd)) (fun _ => true) s
    (fun str => complete (s.putFp rd (inDomain (decide (str.length ≤ 96)) (BitVec.ofNat 768 (be str)))))

/-- R125. -/
def execFpSt (ra : FpIdx) (s : State) : Result := storeString (encode (.fpSt ra)) (fpBytes (s.getFp ra)) s

/-- R126. -/
def execFpFromSc (rd : FpIdx) (ra : Idx) (s : State) : Result := complete (s.setFp rd (s.getSc ra))

/-- R127. -/
def execFpToSc (rd : Idx) (ra : FpIdx) (s : State) : Result := complete (s.setSc rd (s.getFp ra))

/-! ### Shared shapes -/

/-- One source in a domain, one destination. -/
def fpUnary (ok : Config → Fp → Bool) (f : Config → Fp → Fp) (rd ra : FpIdx) (s : State) : Result :=
  complete (s.putFp rd (inDomain (ok s.cfg (s.getFp ra)) (f s.cfg (s.getFp ra))))

/-- Two sources in a domain, one destination. -/
def fpBinary (ok : Config → Fp → Bool) (f : Config → Fp → Fp → Fp) (rd ra rb : FpIdx) (s : State) : Result :=
  complete (s.putFp rd (inDomain (ok s.cfg (s.getFp ra) && ok s.cfg (s.getFp rb))
    (f s.cfg (s.getFp ra) (s.getFp rb))))

/-- A lazy result: some value below `2p` congruent to the exact one; the named member is one of them
(R134 to R136). -/
def fpLazy (ok : Bool) (exact named : Nat) (rd : FpIdx) (s : State) : Result :=
  if ok then
    complete ((s.setFp rd (draw (isLazyOf s.cfg exact) (BitVec.ofNat 768 named) (s.free 0))).spend 1)
  else complete (s.putFp rd none)

/-! ### Montgomery conversion -/

/-- R128. -/
def execFpToMont (rd ra : FpIdx) (s : State) : Result :=
  fpUnary lazyOk (fun c x => BitVec.ofNat 768 (c.mont x.toNat c.r2)) rd ra s

/-- R129. -/
def execFpFromMont (rd ra : FpIdx) (s : State) : Result :=
  fpUnary lazyOk (fun c x => BitVec.ofNat 768 (c.mont x.toNat 1)) rd ra s

/-! ### Fully reduced arithmetic -/

/-- R130. -/
def execFpAdd (rd ra rb : FpIdx) (s : State) : Result := fpBinary valid rawAdd rd ra rb s

/-- R131. -/
def execFpSub (rd ra rb : FpIdx) (s : State) : Result := fpBinary valid rawSub rd ra rb s

/-- R132. -/
def execFpDouble (rd ra : FpIdx) (s : State) : Result := fpUnary valid rawDouble rd ra s

/-- R133. -/
def execFpNeg (rd ra : FpIdx) (s : State) : Result := fpUnary valid rawNeg rd ra s

/-- R137. -/
def execFpMul (rd ra rb : FpIdx) (s : State) : Result :=
  fpBinary lazyOk (fun c x y => BitVec.ofNat 768 (c.mont x.toNat y.toNat)) rd ra rb s

/-- R138. -/
def execFpSquare (rd ra : FpIdx) (s : State) : Result :=
  fpUnary lazyOk (fun c x => BitVec.ofNat 768 (c.mont x.toNat x.toNat)) rd ra s

/-- R139. -/
def execFpInv (rd ra : FpIdx) (s : State) : Result := fpUnary valid (fun c x => c.enc (c.inv (c.dec x))) rd ra s

/-- R140: the exponent is the whole scalar (R119). -/
def execFpExp (rd ra : FpIdx) (rb : Idx) (s : State) : Result :=
  fpUnary valid (fun c x => c.enc (c.pow (c.dec x) (s.getSc rb).toNat)) rd ra s

/-- R141: `FLAG.B` and the root `a^((p+1)/4)`, or a drawn destination. -/
def execFpSqrt (rd ra : FpIdx) (s : State) : Result :=
  let c := s.cfg
  let a := c.dec (s.getFp ra)
  let root := c.pow a ((c.pMod + 1) / 4)
  if valid c (s.getFp ra) then
    let square := c.sq root == a
    complete ((s.putFp rd (inDomain square (c.enc root))).setB square)
  else
    complete (((s.putFp rd none).putB none))

/-- R143: `(−4·x) mod p`. -/
def execFpMulNr (rd ra : FpIdx) (s : State) : Result :=
  fpUnary valid (fun c x => BitVec.ofNat 768 (c.beta * x.toNat % c.pMod)) rd ra s

/-! ### Lazy arithmetic -/

/-- R134. -/
def execFpLAdd (rd ra rb : FpIdx) (s : State) : Result :=
  let sum := (s.getFp ra).toNat + (s.getFp rb).toNat
  fpLazy (valid s.cfg (s.getFp ra) && valid s.cfg (s.getFp rb)) sum sum rd s

/-- R135. -/
def execFpLDouble (rd ra : FpIdx) (s : State) : Result :=
  let twice := 2 * (s.getFp ra).toNat
  fpLazy (valid s.cfg (s.getFp ra)) twice twice rd s

/-- R136. -/
def execFpLSub (rd ra rb : FpIdx) (s : State) : Result :=
  let diff := (s.getFp ra).toNat + (s.cfg.pMod - (s.getFp rb).toNat)
  fpLazy (valid s.cfg (s.getFp ra) && valid s.cfg (s.getFp rb)) diff diff rd s

/-! ### Predicates -/

/-- R142: a non-zero residue with no square root, by `a^((p−1)/2) = p − 1`. -/
def execFpIsQnr (ra : FpIdx) (s : State) : Result :=
  let c := s.cfg
  let a := c.dec (s.getFp ra)
  complete (s.putB (inDomain (valid c (s.getFp ra)) (c.pow a ((c.pMod - 1) / 2) == c.pMod - 1)))

/-- R144. -/
def execFpCmp (ra rb : FpIdx) (s : State) : Result := complete (s.setCmp (threeWay (s.getFp ra) (s.getFp rb)))

/-- R145. -/
def execFpEq (ra rb : FpIdx) (s : State) : Result := complete (s.setB (s.getFp ra == s.getFp rb))

/-- R146. -/
def execFpIsZero (ra : FpIdx) (s : State) : Result := complete (s.setB (s.getFp ra == 0))

/-- R147. -/
def execFpIsOne (ra : FpIdx) (s : State) : Result := complete (s.setB (s.getFp ra == s.cfg.one))

/-- R148. -/
def execFpIsOdd (ra : FpIdx) (s : State) : Result := complete (s.setB ((s.getFp ra).getLsbD 0))

/-- R149. -/
def execFpIsEven (ra : FpIdx) (s : State) : Result := complete (s.setB (!(s.getFp ra).getLsbD 0))

/-- R150. -/
def execFpIsValid (ra : FpIdx) (s : State) : Result := complete (s.setB (valid s.cfg (s.getFp ra)))

end Sys2Proof.Machine
end

