-- ==== Sys2Proof/Machine/CubicField.lean ====
section
/-! DEFINITION. The cubic extension commands (41_fp3.md). -/
namespace Sys2Proof.Machine

/-! ### Constants, moves, load and store -/

/-- R165. -/
def execFp3Zero (rd : Idx) (s : State) : Result := complete (s.setFp3 rd ⟨0, 0, 0⟩)

/-- R166. -/
def execFp3One (rd : Idx) (s : State) : Result := complete (s.setFp3 rd ⟨s.cfg.one, 0, 0⟩)

/-- R167. -/
def execFp3Mov (rd ra : Idx) (s : State) : Result := complete (s.setFp3 rd (s.getFp3 ra))

/-- R168. -/
def execFp3Ld (rd : Idx) (s : State) : Result :=
  loadString (encode (.fp3Ld rd)) (· == 288) s (fun str => complete (s.setFp3 rd (cubicAt str 0)))

/-- R169. -/
def execFp3St (ra : Idx) (s : State) : Result := storeString (encode (.fp3St ra)) (cubicBytes (s.getFp3 ra)) s

/-- R170. -/
def execFp3Set (rd : Idx) (ra rb rc : FpIdx) (s : State) : Result :=
  complete (s.setFp3 rd ⟨s.getFp ra, s.getFp rb, s.getFp rc⟩)

/-- R171: a selector above 2 is an illegal command (R88). -/
def execFp3Get (rd : FpIdx) (ra : Idx) (imm8 : BitVec 8) (s : State) : Result :=
  let t := s.getFp3 ra
  match imm8.toNat with
  | 0 => complete (s.setFp rd t.c0)
  | 1 => complete (s.setFp rd t.c1)
  | 2 => complete (s.setFp rd t.c2)
  | _ => raise .illegalCommand (encode (.fp3Get rd ra imm8)) s

/-! ### Shared shapes -/

/-- One source with every component in a domain. -/
def fp3Unary (ok : Config → Fp → Bool) (f : Config → CubicElt Fp → CubicElt Fp) (rd ra : Idx) (s : State) : Result :=
  complete (s.putFp3 rd (inDomain ((s.getFp3 ra).all (ok s.cfg)) (f s.cfg (s.getFp3 ra))))

/-- Two sources with every component in a domain. -/
def fp3Binary (ok : Config → Fp → Bool) (f : Config → CubicElt Fp → CubicElt Fp → CubicElt Fp) (rd ra rb : Idx)
    (s : State) : Result :=
  complete (s.putFp3 rd (inDomain ((s.getFp3 ra).all (ok s.cfg) && (s.getFp3 rb).all (ok s.cfg))
    (f s.cfg (s.getFp3 ra) (s.getFp3 rb))))

/-! ### Additive commands -/

/-- R172. -/
def execFp3Add (rd ra rb : Idx) (s : State) : Result := fp3Binary valid (fun c a b => a.zipWith (rawAdd c) b) rd ra rb s

/-- R173. -/
def execFp3Sub (rd ra rb : Idx) (s : State) : Result := fp3Binary valid (fun c a b => a.zipWith (rawSub c) b) rd ra rb s

/-- R174. -/
def execFp3Double (rd ra : Idx) (s : State) : Result := fp3Unary valid (fun c a => a.map (rawDouble c)) rd ra s

/-- R175. -/
def execFp3Neg (rd ra : Idx) (s : State) : Result := fp3Unary valid (fun c a => a.map (rawNeg c)) rd ra s

/-- R176: each component drawn on its own. -/
def execFp3LAdd (rd ra rb : Idx) (s : State) : Result :=
  let a := s.getFp3 ra
  let b := s.getFp3 rb
  if a.all (valid s.cfg) && b.all (valid s.cfg) then
    complete ((s.setFp3 rd ⟨lazyAdd s.cfg a.c0 b.c0 (s.free 0), lazyAdd s.cfg a.c1 b.c1 (s.free 1),
      lazyAdd s.cfg a.c2 b.c2 (s.free 2)⟩).spend 3)
  else complete (s.putFp3 rd none)

/-! ### Multiplicative commands -/

/-- R177. -/
def execFp3Mul (rd ra rb : Idx) (s : State) : Result :=
  fp3Binary lazyOk (fun c a b => c.enc3 (c.mul3 (c.dec3 a) (c.dec3 b))) rd ra rb s

/-- R178. -/
def execFp3Square (rd ra : Idx) (s : State) : Result :=
  fp3Unary lazyOk (fun c a => c.enc3 (c.mul3 (c.dec3 a) (c.dec3 a))) rd ra s

/-- R179. -/
def execFp3Inv (rd ra : Idx) (s : State) : Result :=
  fp3Unary valid (fun c a => c.enc3 (c.inv3 (c.dec3 a))) rd ra s

/-- R180. -/
def execFp3Exp (rd ra rb : Idx) (s : State) : Result :=
  fp3Unary valid (fun c a => c.enc3 (c.pow3 (c.dec3 a) (s.getSc rb).toNat)) rd ra s

/-- R181. -/
def execFp3Frob (rd ra : Idx) (imm8 : BitVec 8) (s : State) : Result :=
  fp3Unary valid (fun c a => c.enc3 (c.frob3 (c.dec3 a) imm8.toNat)) rd ra s

/-- R182: of the second source only `c0` is read. -/
def execFp3Mul0 (rd ra rb : Idx) (s : State) : Result :=
  let a := s.getFp3 ra
  let b0 := (s.getFp3 rb).c0
  let c := s.cfg
  complete (s.putFp3 rd (inDomain (a.all (lazyOk c) && lazyOk c b0) (c.enc3 (c.scale3 (c.dec b0) (c.dec3 a)))))

/-! ### Predicates -/

/-- R183. -/
def execFp3Eq (ra rb : Idx) (s : State) : Result := complete (s.setB (s.getFp3 ra == s.getFp3 rb))

/-- R184. -/
def execFp3IsZero (ra : Idx) (s : State) : Result := complete (s.setB (s.getFp3 ra == ⟨0, 0, 0⟩))

/-- R185. -/
def execFp3IsOne (ra : Idx) (s : State) : Result := complete (s.setB (s.getFp3 ra == ⟨s.cfg.one, 0, 0⟩))

end Sys2Proof.Machine
end

