-- ==== Sys2Proof/Machine/PointOps.lean ====
section
/-! DEFINITION. The point commands over a group: what the sixteen G1 commands and their G2 namesakes share (R220,
43_curve.md), and the scalar multiples (44_msm.md). -/
namespace Sys2Proof.Machine

/-- The register `i` of a group is in the domain of the point commands (R223). -/
def State.pointOk (s : State) (g : CurveGroup) (i : Idx) : Bool :=
  Machine.pointOk s.cfg (curveB s.cfg g) (s.getPoint g i)

/-- The residues the register `i` of a group denotes (R220). -/
def State.residues (s : State) (g : CurveGroup) (i : Idx) : Point Nat := (s.getPoint g i).map s.cfg.dec

/-- R230, R250. -/
def pointZero (g : CurveGroup) (rd : Idx) (s : State) : Result := complete (s.setPoint g rd ⟨0, s.cfg.one, 0⟩)

/-- R231, R251. -/
def pointGen (g : CurveGroup) (rd : Idx) (s : State) : Result :=
  let gen := generator s.cfg g
  complete (s.setPoint g rd ⟨s.cfg.enc gen.x, s.cfg.enc gen.y, s.cfg.one⟩)

/-- R232, R252. -/
def pointMov (g : CurveGroup) (rd ra : Idx) (s : State) : Result := complete (s.setPoint g rd (s.getPoint g ra))

/-- R233, R253. -/
def pointLd (command : Word) (g : CurveGroup) (rd : Idx) (s : State) : Result :=
  loadString command (· == 192) s fun str =>
    match pointOfBytes s.cfg (curveB s.cfg g) str with
    | none => raise .notOnCurveError command s
    | some t => complete (s.setPoint g rd t)

/-- R234, R254: the range check, then the bytes; for a point out of domain the 192 bytes are drawn (R223). -/
def pointSt (command : Word) (g : CurveGroup) (ra : Idx) (s : State) : Result :=
  if s.pointOk g ra then storeString command (pointBytes s.cfg (s.getPoint g ra)) s
  else if s.dptr.toNat + 192 > s.cfg.dmemSize then raise .dmemRange command s
  else storeString command (fpBytes (s.free 0) ++ fpBytes (s.free 1)) (s.spend 2)

/-- R235, R255. -/
def pointSet (g : CurveGroup) (rd : Idx) (ra rb rc : FpIdx) (s : State) : Result :=
  complete (s.setPoint g rd ⟨s.getFp ra, s.getFp rb, s.getFp rc⟩)

/-- R236, R256: a selector above 2 is an illegal command (R88). -/
def pointGet (command : Word) (g : CurveGroup) (rd : FpIdx) (ra : Idx) (imm8 : BitVec 8) (s : State) : Result :=
  let t := s.getPoint g ra
  match imm8.toNat with
  | 0 => complete (s.setFp rd t.x)
  | 1 => complete (s.setFp rd t.y)
  | 2 => complete (s.setFp rd t.z)
  | _ => raise .illegalCommand command s

/-- R237, R257. -/
def pointAdd (g : CurveGroup) (rd ra rb : Idx) (s : State) : Result :=
  complete (s.putClass g rd (inDomain (s.pointOk g ra && s.pointOk g rb)
    (s.cfg.addPoint (s.residues g ra) (s.residues g rb))))

/-- R238, R258. -/
def pointDouble (g : CurveGroup) (rd ra : Idx) (s : State) : Result :=
  complete (s.putClass g rd (inDomain (s.pointOk g ra) (s.cfg.double (s.residues g ra))))

/-- R239, R259: exact on valid components. -/
def pointNeg (g : CurveGroup) (rd ra : Idx) (s : State) : Result :=
  let t := s.getPoint g ra
  complete (s.putPoint g rd (inDomain (t.all (valid s.cfg)) ⟨t.x, rawNeg s.cfg t.y, t.z⟩))

/-- R240, R260. -/
def pointSub (g : CurveGroup) (rd ra rb : Idx) (s : State) : Result :=
  complete (s.putClass g rd (inDomain (s.pointOk g ra && s.pointOk g rb)
    (s.cfg.addPoint (s.residues g ra) (s.cfg.negPoint (s.residues g rb)))))

/-- R241, R261: exact. -/
def pointAffine (g : CurveGroup) (rd ra : Idx) (s : State) : Result :=
  complete (s.putPoint g rd (inDomain (s.pointOk g ra) ((s.cfg.affine (s.residues g ra)).map s.cfg.enc)))

/-- R242, R262: on valid components. -/
def pointIsOnCurve (g : CurveGroup) (ra : Idx) (s : State) : Result :=
  complete (s.putB (inDomain ((s.getPoint g ra).all (valid s.cfg))
    (s.cfg.onCurve (curveB s.cfg g) (s.residues g ra))))

/-- R243, R263. -/
def pointIsAffine (g : CurveGroup) (ra : Idx) (s : State) : Result :=
  complete (s.setB ((s.getPoint g ra).z == s.cfg.one))

/-- R244, R264. -/
def pointIsInf (g : CurveGroup) (ra : Idx) (s : State) : Result := complete (s.setB ((s.getPoint g ra).z == 0))

/-- R245, R265. -/
def pointEq (g : CurveGroup) (ra rb : Idx) (s : State) : Result :=
  complete (s.putB (inDomain (s.pointOk g ra && s.pointOk g rb)
    (s.cfg.samePoint (s.residues g ra) (s.residues g rb))))

/-- R274, R277: the scalar is the whole 768-bit value. -/
def pointMulSc (g : CurveGroup) (rd ra rb : Idx) (s : State) : Result :=
  complete (s.putClass g rd (inDomain (s.pointOk g ra)
    (s.cfg.mulPoint (s.getSc rb).toNat (s.residues g ra))))

/-- R275, R278. -/
def pointClrCof (g : CurveGroup) (rd ra : Idx) (s : State) : Result :=
  complete (s.putClass g rd (inDomain (s.pointOk g ra) (s.cfg.mulPoint (cofactor s.cfg g) (s.residues g ra))))

/-- The `k`-th register after `i`. -/
def nthAfter (i : Idx) (k : Nat) : Idx := ⟨(i.val + k) % 8, Nat.mod_lt _ (by decide)⟩

/-- R276, R279: the sum over the two register ranges, all read before the write. A point out of domain gives a
`draw` (R223), a scalar of more bits than `r` a `draw` of valid components (R272). -/
def pointMsm (command : Word) (g : CurveGroup) (rd ra rb : Idx) (imm8 : BitVec 8) (s : State) : Result :=
  let c := s.cfg
  let terms := (List.range imm8.toNat).map (fun k => ((s.getSc (nthAfter rb k)).toNat, nthAfter ra k))
  if (msmOperands ra rb imm8).isSome then raise .illegalCommand command s
  else if terms.all (fun t => s.pointOk g t.2) then
    if terms.all (fun t => bitLen t.1 ≤ bitLen c.rOrd) then
      complete (s.drawPoint g rd (c.sumMultiples (terms.map (fun t => (t.1, s.residues g t.2)))))
    else
      complete ((s.setPoint g rd (s.freePoint.map (fun v => BitVec.ofNat 768 (v.toNat % c.pMod)))).spend 3)
  else complete (s.putPoint g rd none)

end Sys2Proof.Machine
end

