-- ==== Sys2Proof/Machine/G1.lean ====
section
/-! DEFINITION. The G1 point commands (43_curve.md) and scalar multiplication commands (44_msm.md). -/
namespace Sys2Proof.Machine

/-- R230. -/
def execG1Zero (rd : Idx) (s : State) : Result := pointZero .g1 rd s

/-- R231. -/
def execG1Gen (rd : Idx) (s : State) : Result := pointGen .g1 rd s

/-- R232. -/
def execG1Mov (rd ra : Idx) (s : State) : Result := pointMov .g1 rd ra s

/-- R233. -/
def execG1Ld (rd : Idx) (s : State) : Result := pointLd (encode (.g1Ld rd)) .g1 rd s

/-- R234. -/
def execG1St (ra : Idx) (s : State) : Result := pointSt (encode (.g1St ra)) .g1 ra s

/-- R235. -/
def execG1Set (rd : Idx) (ra rb rc : FpIdx) (s : State) : Result := pointSet .g1 rd ra rb rc s

/-- R236. -/
def execG1Get (rd : FpIdx) (ra : Idx) (imm8 : BitVec 8) (s : State) : Result :=
  pointGet (encode (.g1Get rd ra imm8)) .g1 rd ra imm8 s

/-- R237. -/
def execG1Add (rd ra rb : Idx) (s : State) : Result := pointAdd .g1 rd ra rb s

/-- R238. -/
def execG1Double (rd ra : Idx) (s : State) : Result := pointDouble .g1 rd ra s

/-- R239. -/
def execG1Neg (rd ra : Idx) (s : State) : Result := pointNeg .g1 rd ra s

/-- R240. -/
def execG1Sub (rd ra rb : Idx) (s : State) : Result := pointSub .g1 rd ra rb s

/-- R241. -/
def execG1Affine (rd ra : Idx) (s : State) : Result := pointAffine .g1 rd ra s

/-- R242. -/
def execG1IsOnCurve (ra : Idx) (s : State) : Result := pointIsOnCurve .g1 ra s

/-- R243. -/
def execG1IsAffine (ra : Idx) (s : State) : Result := pointIsAffine .g1 ra s

/-- R244. -/
def execG1IsInf (ra : Idx) (s : State) : Result := pointIsInf .g1 ra s

/-- R245. -/
def execG1Eq (ra rb : Idx) (s : State) : Result := pointEq .g1 ra rb s

/-- R274. -/
def execG1MulSc (rd ra rb : Idx) (s : State) : Result := pointMulSc .g1 rd ra rb s

/-- R275. -/
def execG1ClrCof (rd ra : Idx) (s : State) : Result := pointClrCof .g1 rd ra s

/-- R276. -/
def execG1Msm (rd ra rb : Idx) (imm8 : BitVec 8) (s : State) : Result :=
  pointMsm (encode (.g1Msm rd ra rb imm8)) .g1 rd ra rb imm8 s

end Sys2Proof.Machine
end

