-- ==== Sys2Proof/Machine/G2.lean ====
section
/-! DEFINITION. The G2 point commands (43_curve.md) and scalar multiplication commands (44_msm.md). -/
namespace Sys2Proof.Machine

/-- R250. -/
def execG2Zero (rd : Idx) (s : State) : Result := pointZero .g2 rd s

/-- R251. -/
def execG2Gen (rd : Idx) (s : State) : Result := pointGen .g2 rd s

/-- R252. -/
def execG2Mov (rd ra : Idx) (s : State) : Result := pointMov .g2 rd ra s

/-- R253. -/
def execG2Ld (rd : Idx) (s : State) : Result := pointLd (encode (.g2Ld rd)) .g2 rd s

/-- R254. -/
def execG2St (ra : Idx) (s : State) : Result := pointSt (encode (.g2St ra)) .g2 ra s

/-- R255. -/
def execG2Set (rd : Idx) (ra rb rc : FpIdx) (s : State) : Result := pointSet .g2 rd ra rb rc s

/-- R256. -/
def execG2Get (rd : FpIdx) (ra : Idx) (imm8 : BitVec 8) (s : State) : Result :=
  pointGet (encode (.g2Get rd ra imm8)) .g2 rd ra imm8 s

/-- R257. -/
def execG2Add (rd ra rb : Idx) (s : State) : Result := pointAdd .g2 rd ra rb s

/-- R258. -/
def execG2Double (rd ra : Idx) (s : State) : Result := pointDouble .g2 rd ra s

/-- R259. -/
def execG2Neg (rd ra : Idx) (s : State) : Result := pointNeg .g2 rd ra s

/-- R260. -/
def execG2Sub (rd ra rb : Idx) (s : State) : Result := pointSub .g2 rd ra rb s

/-- R261. -/
def execG2Affine (rd ra : Idx) (s : State) : Result := pointAffine .g2 rd ra s

/-- R262. -/
def execG2IsOnCurve (ra : Idx) (s : State) : Result := pointIsOnCurve .g2 ra s

/-- R263. -/
def execG2IsAffine (ra : Idx) (s : State) : Result := pointIsAffine .g2 ra s

/-- R264. -/
def execG2IsInf (ra : Idx) (s : State) : Result := pointIsInf .g2 ra s

/-- R265. -/
def execG2Eq (ra rb : Idx) (s : State) : Result := pointEq .g2 ra rb s

/-- R277. -/
def execG2MulSc (rd ra rb : Idx) (s : State) : Result := pointMulSc .g2 rd ra rb s

/-- R278. -/
def execG2ClrCof (rd ra : Idx) (s : State) : Result := pointClrCof .g2 rd ra s

/-- R279. -/
def execG2Msm (rd ra rb : Idx) (imm8 : BitVec 8) (s : State) : Result :=
  pointMsm (encode (.g2Msm rd ra rb imm8)) .g2 rd ra rb imm8 s

/-- R280: `r·P = O`. -/
def execG2InSub (ra : Idx) (s : State) : Result :=
  complete (s.putB (inDomain (s.pointOk .g2 ra) ((s.cfg.mulPoint s.cfg.rOrd (s.residues .g2 ra)).z == 0)))

end Sys2Proof.Machine
end

