-- ==== Sys2Proof/Machine/SexticField.lean ====
section
/-! DEFINITION. The sextic extension commands (42_fp6.md). -/
namespace Sys2Proof.Machine

/-- The contents of a register that holds one: `((ONE,0,0),(0,0,0))` (R196). -/
def oneSextic (c : Config) : SexticElt Fp := ⟨⟨c.one, 0, 0⟩, ⟨0, 0, 0⟩⟩

/-! ### Constants, moves, load and store -/

/-- R195. -/
def execFp6Zero (rd : Idx) (s : State) : Result := complete (s.setFp6 rd ⟨⟨0, 0, 0⟩, ⟨0, 0, 0⟩⟩)

/-- R196. -/
def execFp6One (rd : Idx) (s : State) : Result := complete (s.setFp6 rd (oneSextic s.cfg))

/-- R197. -/
def execFp6Mov (rd ra : Idx) (s : State) : Result := complete (s.setFp6 rd (s.getFp6 ra))

/-- R198. -/
def execFp6Ld (rd : Idx) (s : State) : Result :=
  loadString (encode (.fp6Ld rd)) (· == 576) s (fun str => complete (s.setFp6 rd (sexticAt str)))

/-- R199. -/
def execFp6St (ra : Idx) (s : State) : Result := storeString (encode (.fp6St ra)) (sexticBytes (s.getFp6 ra)) s

/-- R200. -/
def execFp6Set (rd ra rb : Idx) (s : State) : Result := complete (s.setFp6 rd ⟨s.getFp3 ra, s.getFp3 rb⟩)

/-- R201: a selector above 1 is an illegal command (R88). -/
def execFp6Get (rd ra : Idx) (imm8 : BitVec 8) (s : State) : Result :=
  let t := s.getFp6 ra
  match imm8.toNat with
  | 0 => complete (s.setFp3 rd t.a0)
  | 1 => complete (s.setFp3 rd t.a1)
  | _ => raise .illegalCommand (encode (.fp6Get rd ra imm8)) s

/-! ### Shared shapes -/

/-- One source with every component in a domain. -/
def fp6Unary (ok : Config → Fp → Bool) (f : Config → SexticElt Fp → SexticElt Fp) (rd ra : Idx) (s : State) : Result :=
  complete (s.putFp6 rd (inDomain ((s.getFp6 ra).all (ok s.cfg)) (f s.cfg (s.getFp6 ra))))

/-- Two sources with every component in a domain. -/
def fp6Binary (ok : Config → Fp → Bool) (f : Config → SexticElt Fp → SexticElt Fp → SexticElt Fp) (rd ra rb : Idx)
    (s : State) : Result :=
  complete (s.putFp6 rd (inDomain ((s.getFp6 ra).all (ok s.cfg) && (s.getFp6 rb).all (ok s.cfg))
    (f s.cfg (s.getFp6 ra) (s.getFp6 rb))))

/-- The destination multiplied in place by a sparse element of three `FP` registers (R214, R215). -/
def fp6Sparse (sparse : Nat → Nat → Nat → SexticElt Nat) (rd : Idx) (ra rb rc : FpIdx) (s : State) : Result :=
  let c := s.cfg
  let d := s.getFp6 rd
  let x := s.getFp ra
  let y := s.getFp rb
  let z := s.getFp rc
  complete (s.putFp6 rd (inDomain (d.all (lazyOk c) && lazyOk c x && lazyOk c y && lazyOk c z)
    (c.enc6 (c.mul6 (c.dec6 d) (sparse (c.dec x) (c.dec y) (c.dec z))))))

/-! ### Additive commands -/

/-- R202. -/
def execFp6Add (rd ra rb : Idx) (s : State) : Result := fp6Binary valid (fun c a b => a.zipWith (rawAdd c) b) rd ra rb s

/-- R203. -/
def execFp6Sub (rd ra rb : Idx) (s : State) : Result := fp6Binary valid (fun c a b => a.zipWith (rawSub c) b) rd ra rb s

/-- R204. -/
def execFp6Double (rd ra : Idx) (s : State) : Result := fp6Unary valid (fun c a => a.map (rawDouble c)) rd ra s

/-- R205. -/
def execFp6Neg (rd ra : Idx) (s : State) : Result := fp6Unary valid (fun c a => a.map (rawNeg c)) rd ra s

/-- R206: each component drawn on its own. -/
def execFp6LAdd (rd ra rb : Idx) (s : State) : Result :=
  let a := s.getFp6 ra
  let b := s.getFp6 rb
  let sum (k : Nat) (x y : Fp) : Fp := lazyAdd s.cfg x y (s.free k)
  if a.all (valid s.cfg) && b.all (valid s.cfg) then
    complete ((s.setFp6 rd ⟨⟨sum 0 a.a0.c0 b.a0.c0, sum 1 a.a0.c1 b.a0.c1, sum 2 a.a0.c2 b.a0.c2⟩,
      ⟨sum 3 a.a1.c0 b.a1.c0, sum 4 a.a1.c1 b.a1.c1, sum 5 a.a1.c2 b.a1.c2⟩⟩).spend 6)
  else complete (s.putFp6 rd none)

/-! ### Multiplicative commands -/

/-- R207. -/
def execFp6Mul (rd ra rb : Idx) (s : State) : Result :=
  fp6Binary lazyOk (fun c a b => c.enc6 (c.mul6 (c.dec6 a) (c.dec6 b))) rd ra rb s

/-- R208. -/
def execFp6Square (rd ra : Idx) (s : State) : Result :=
  fp6Unary lazyOk (fun c a => c.enc6 (c.sq6 (c.dec6 a))) rd ra s

/-- R209: the square on the cyclotomic subgroup, a `draw` elsewhere. -/
def execFp6CycSq (rd ra : Idx) (s : State) : Result :=
  let c := s.cfg
  let a := c.dec6 (s.getFp6 ra)
  complete (s.putFp6 rd (inDomain ((s.getFp6 ra).all (valid c) && c.isCyclotomic a) (c.enc6 (c.sq6 a))))

/-- R210. -/
def execFp6Inv (rd ra : Idx) (s : State) : Result := fp6Unary valid (fun c a => c.enc6 (c.inv6 (c.dec6 a))) rd ra s

/-- R211. -/
def execFp6Exp (rd ra rb : Idx) (s : State) : Result :=
  fp6Unary valid (fun c a => c.enc6 (c.pow6 (c.dec6 a) (s.getSc rb).toNat)) rd ra s

/-- R212. -/
def execFp6Conj (rd ra : Idx) (s : State) : Result := fp6Unary valid (fun c a => ⟨a.a0, a.a1.map (rawNeg c)⟩) rd ra s

/-- R213. -/
def execFp6Frob (rd ra : Idx) (imm8 : BitVec 8) (s : State) : Result :=
  fp6Unary valid (fun c a => c.enc6 (c.frob6 (c.dec6 a) imm8.toNat)) rd ra s

/-- R214. -/
def execFp6Mul014 (rd : Idx) (ra rb rc : FpIdx) (s : State) : Result := fp6Sparse Config.sparse014 rd ra rb rc s

/-- R215. -/
def execFp6Mul034 (rd : Idx) (ra rb rc : FpIdx) (s : State) : Result := fp6Sparse Config.sparse034 rd ra rb rc s

/-! ### Predicates -/

/-- R216. -/
def execFp6Eq (ra rb : Idx) (s : State) : Result := complete (s.setB (s.getFp6 ra == s.getFp6 rb))

/-- R217. -/
def execFp6IsZero (ra : Idx) (s : State) : Result :=
  complete (s.setB (s.getFp6 ra == ⟨⟨0, 0, 0⟩, ⟨0, 0, 0⟩⟩))

/-- R218. -/
def execFp6IsOne (ra : Idx) (s : State) : Result := complete (s.setB (s.getFp6 ra == oneSextic s.cfg))

/-- R219: `A^r = 1`. -/
def execFp6IsValid (ra : Idx) (s : State) : Result :=
  let c := s.cfg
  complete (s.putB (inDomain ((s.getFp6 ra).all (valid c)) (c.pow6 (c.dec6 (s.getFp6 ra)) c.rOrd == c.one6)))

end Sys2Proof.Machine
end

