-- ==== Sys2Proof/Machine/System.lean ====
section
/-! DEFINITION. The system and scalar commands (46_system.md). -/
namespace Sys2Proof.Machine

/-- R320. -/
def execNop (s : State) : Result := complete s

/-- R321: no range check. -/
def execSetPtr (imm24 : BitVec 24) (s : State) : Result := complete { s with dptr := imm24 }

/-- R322. -/
def execSetLen (imm24 : BitVec 24) (s : State) : Result := complete { s with dlen := imm24 }

/-- R323. -/
def execClrErr (s : State) : Result := complete (clearError s)

/-- R324. -/
def execScLdi (rd : Idx) (imm20 : BitVec 20) (s : State) : Result := complete (s.setSc rd (imm20.setWidth 768))

/-- R325. -/
def execScLd (rd : Idx) (s : State) : Result :=
  loadString (encode (.scLd rd)) (fun n => decide (n ≤ 96)) s
    (fun str => complete (s.setSc rd (BitVec.ofNat 768 (be str))))

/-- R326. -/
def execScSt (ra : Idx) (s : State) : Result := storeString (encode (.scSt ra)) (fpBytes (s.getSc ra)) s

/-- R327. -/
def execScMov (rd ra : Idx) (s : State) : Result := complete (s.setSc rd (s.getSc ra))

end Sys2Proof.Machine
end

