-- ==== Sys2Proof/Machine/Pair.lean ====
section
/-! DEFINITION. The pairing commands (45_pairing.md). -/
namespace Sys2Proof.Machine

/-- The entry queued for two finite points: the affine coordinates (R292), drawn valid values when an operand is out
of domain (R223, R308). `side` is applied to `py`. -/
def queuedPair (s : State) (side : Fp → Fp) (ra rb : Idx) : Option (Pair Fp) :=
  inDomain (s.pointOk .g1 ra && s.pointOk .g2 rb)
    (let p := (s.cfg.affine (s.residues .g1 ra)).map s.cfg.enc
     let q := (s.cfg.affine (s.residues .g2 rb)).map s.cfg.enc
     ⟨p.x, side p.y, q.x, q.y⟩)

/-- A drawn entry: four valid values (R29). -/
def State.freePair (s : State) : Pair Fp :=
  let v (k : Nat) : Fp := BitVec.ofNat 768 ((s.free k).toNat % s.cfg.pMod)
  ⟨v 0, v 1, v 2, v 3⟩

/-- R310: the infinity test, then the capacity test, then the entry is appended. -/
def queue (command : Word) (side : Fp → Fp) (ra rb : Idx) (s : State) : Result :=
  if (s.getPoint .g1 ra).z = 0 ∨ (s.getPoint .g2 rb).z = 0 then complete s
  else if s.pairs.length = s.cfg.maxPairs then raise .pairListFull command s
  else
    match queuedPair s side ra rb with
    | some entry => complete { s with pairs := s.pairs ++ [entry] }
    | none => complete (State.spend { s with pairs := s.pairs ++ [s.freePair] } 4)

/-- The residues of an entry. -/
def Pair.residues (c : Config) (k : Pair Fp) : Pair Nat := ⟨c.dec k.px, c.dec k.py, c.dec k.qx, c.dec k.qy⟩

/-- The entries of the pair list as residues. -/
def State.entries (s : State) : List (Pair Nat) := s.pairs.map (Pair.residues s.cfg)

/-- The pairing value of the list, `none` when an entry is outside the order-`r` subgroups (R291, R308). -/
def State.pairingValue (s : State) : Option (SexticElt Nat) :=
  inDomain (s.entries.all s.cfg.pairInDomain) (s.cfg.pairing s.entries)

/-- R310. -/
def execPairAdd (ra rb : Idx) (s : State) : Result := queue (encode (.pairAdd ra rb)) id ra rb s

/-- R311: `AddPair(−P, Q)`. -/
def execPairAddInv (ra rb : Idx) (s : State) : Result :=
  queue (encode (.pairAddInv ra rb)) (rawNeg s.cfg) ra rb s

/-- R312. -/
def execPairReset (s : State) : Result := complete { s with pairs := [] }

/-- R313. -/
def execPairResult (rd : Idx) (s : State) : Result :=
  complete { s.putFp6 rd (s.pairingValue.map s.cfg.enc6) with pairs := [] }

/-- R314. -/
def execPairCheck (s : State) : Result :=
  complete { s.putB (s.pairingValue.map (· == s.cfg.one6)) with pairs := [] }

/-- The set `PAIR.MILLER` draws from: non-zero, valid components, the same final exponentiation (R302). -/
def isMillerValue (c : Config) (reference : SexticElt Nat) (v : SexticElt Fp) : Bool :=
  v.all (valid c) && c.dec6 v != Config.zero6 && c.finalExp (c.dec6 v) == c.finalExp reference

/-- R315: the list is kept. -/
def execPairMiller (rd : Idx) (s : State) : Result :=
  let c := s.cfg
  let reference := c.miller s.entries
  if s.entries.all c.pairInDomain then
    complete ((s.setFp6 rd (draw (isMillerValue c reference) (c.enc6 reference) s.freeSextic)).spend 6)
  else complete (s.putFp6 rd none)

/-- R316: a `draw` for zero. -/
def execFexp (rd ra : Idx) (s : State) : Result :=
  let c := s.cfg
  let f := c.dec6 (s.getFp6 ra)
  complete (s.putFp6 rd (inDomain ((s.getFp6 ra).all (valid c) && f != Config.zero6) (c.enc6 (c.finalExp f))))

/-- R317. -/
def execFexpEasy (rd ra : Idx) (s : State) : Result := fp6Unary valid (fun c a => c.enc6 (c.easyPart (c.dec6 a))) rd ra s

/-- R318: on the cyclotomic subgroup. -/
def execFexpHard (rd ra : Idx) (s : State) : Result :=
  let c := s.cfg
  let g := c.dec6 (s.getFp6 ra)
  complete (s.putFp6 rd (inDomain ((s.getFp6 ra).all (valid c) && c.isCyclotomic g) (c.enc6 (c.hardPart g))))

end Sys2Proof.Machine
end

