-- ==== Sys2Proof/Machine/Dispatch.lean ====
section
/-! DEFINITION. One arm per command: the call of its meaning. -/
namespace Sys2Proof.Machine

/-- The effect of a command on a state. -/
def exec (i : Instr) (s : State) : Host.Outcome State Fault Refusal :=
  match i with
  -- System and scalar commands (46_system.md)
  | .nop => Sys2Proof.Machine.execNop s
  | .setPtr imm24 => Sys2Proof.Machine.execSetPtr imm24 s
  | .setLen imm24 => Sys2Proof.Machine.execSetLen imm24 s
  | .clrErr => Sys2Proof.Machine.execClrErr s
  | .scLdi rd imm20 => Sys2Proof.Machine.execScLdi rd imm20 s
  | .scLd rd => Sys2Proof.Machine.execScLd rd s
  | .scSt ra => Sys2Proof.Machine.execScSt ra s
  | .scMov rd ra => Sys2Proof.Machine.execScMov rd ra s
  -- Base field commands (40_fp.md)
  | .fpZero rd => Sys2Proof.Machine.execFpZero rd s
  | .fpOne rd => Sys2Proof.Machine.execFpOne rd s
  | .fpModulus rd => Sys2Proof.Machine.execFpModulus rd s
  | .fpMov rd ra => Sys2Proof.Machine.execFpMov rd ra s
  | .fpLd rd => Sys2Proof.Machine.execFpLd rd s
  | .fpSt ra => Sys2Proof.Machine.execFpSt ra s
  | .fpFromSc rd ra => Sys2Proof.Machine.execFpFromSc rd ra s
  | .fpToSc rd ra => Sys2Proof.Machine.execFpToSc rd ra s
  | .fpToMont rd ra => Sys2Proof.Machine.execFpToMont rd ra s
  | .fpFromMont rd ra => Sys2Proof.Machine.execFpFromMont rd ra s
  | .fpAdd rd ra rb => Sys2Proof.Machine.execFpAdd rd ra rb s
  | .fpSub rd ra rb => Sys2Proof.Machine.execFpSub rd ra rb s
  | .fpDouble rd ra => Sys2Proof.Machine.execFpDouble rd ra s
  | .fpNeg rd ra => Sys2Proof.Machine.execFpNeg rd ra s
  | .fpLAdd rd ra rb => Sys2Proof.Machine.execFpLAdd rd ra rb s
  | .fpLDouble rd ra => Sys2Proof.Machine.execFpLDouble rd ra s
  | .fpLSub rd ra rb => Sys2Proof.Machine.execFpLSub rd ra rb s
  | .fpMul rd ra rb => Sys2Proof.Machine.execFpMul rd ra rb s
  | .fpSquare rd ra => Sys2Proof.Machine.execFpSquare rd ra s
  | .fpInv rd ra => Sys2Proof.Machine.execFpInv rd ra s
  | .fpExp rd ra rb => Sys2Proof.Machine.execFpExp rd ra rb s
  | .fpSqrt rd ra => Sys2Proof.Machine.execFpSqrt rd ra s
  | .fpIsQnr ra => Sys2Proof.Machine.execFpIsQnr ra s
  | .fpMulNr rd ra => Sys2Proof.Machine.execFpMulNr rd ra s
  | .fpCmp ra rb => Sys2Proof.Machine.execFpCmp ra rb s
  | .fpEq ra rb => Sys2Proof.Machine.execFpEq ra rb s
  | .fpIsZero ra => Sys2Proof.Machine.execFpIsZero ra s
  | .fpIsOne ra => Sys2Proof.Machine.execFpIsOne ra s
  | .fpIsOdd ra => Sys2Proof.Machine.execFpIsOdd ra s
  | .fpIsEven ra => Sys2Proof.Machine.execFpIsEven ra s
  | .fpIsValid ra => Sys2Proof.Machine.execFpIsValid ra s
  -- Cubic extension commands (41_fp3.md)
  | .fp3Zero rd => Sys2Proof.Machine.execFp3Zero rd s
  | .fp3One rd => Sys2Proof.Machine.execFp3One rd s
  | .fp3Mov rd ra => Sys2Proof.Machine.execFp3Mov rd ra s
  | .fp3Ld rd => Sys2Proof.Machine.execFp3Ld rd s
  | .fp3St ra => Sys2Proof.Machine.execFp3St ra s
  | .fp3Set rd ra rb rc => Sys2Proof.Machine.execFp3Set rd ra rb rc s
  | .fp3Get rd ra imm8 => Sys2Proof.Machine.execFp3Get rd ra imm8 s
  | .fp3Add rd ra rb => Sys2Proof.Machine.execFp3Add rd ra rb s
  | .fp3Sub rd ra rb => Sys2Proof.Machine.execFp3Sub rd ra rb s
  | .fp3Double rd ra => Sys2Proof.Machine.execFp3Double rd ra s
  | .fp3Neg rd ra => Sys2Proof.Machine.execFp3Neg rd ra s
  | .fp3LAdd rd ra rb => Sys2Proof.Machine.execFp3LAdd rd ra rb s
  | .fp3Mul rd ra rb => Sys2Proof.Machine.execFp3Mul rd ra rb s
  | .fp3Square rd ra => Sys2Proof.Machine.execFp3Square rd ra s
  | .fp3Inv rd ra => Sys2Proof.Machine.execFp3Inv rd ra s
  | .fp3Exp rd ra rb => Sys2Proof.Machine.execFp3Exp rd ra rb s
  | .fp3Frob rd ra imm8 => Sys2Proof.Machine.execFp3Frob rd ra imm8 s
  | .fp3Mul0 rd ra rb => Sys2Proof.Machine.execFp3Mul0 rd ra rb s
  | .fp3Eq ra rb => Sys2Proof.Machine.execFp3Eq ra rb s
  | .fp3IsZero ra => Sys2Proof.Machine.execFp3IsZero ra s
  | .fp3IsOne ra => Sys2Proof.Machine.execFp3IsOne ra s
  -- Sextic extension commands (42_fp6.md)
  | .fp6Zero rd => Sys2Proof.Machine.execFp6Zero rd s
  | .fp6One rd => Sys2Proof.Machine.execFp6One rd s
  | .fp6Mov rd ra => Sys2Proof.Machine.execFp6Mov rd ra s
  | .fp6Ld rd => Sys2Proof.Machine.execFp6Ld rd s
  | .fp6St ra => Sys2Proof.Machine.execFp6St ra s
  | .fp6Set rd ra rb => Sys2Proof.Machine.execFp6Set rd ra rb s
  | .fp6Get rd ra imm8 => Sys2Proof.Machine.execFp6Get rd ra imm8 s
  | .fp6Add rd ra rb => Sys2Proof.Machine.execFp6Add rd ra rb s
  | .fp6Sub rd ra rb => Sys2Proof.Machine.execFp6Sub rd ra rb s
  | .fp6Double rd ra => Sys2Proof.Machine.execFp6Double rd ra s
  | .fp6Neg rd ra => Sys2Proof.Machine.execFp6Neg rd ra s
  | .fp6LAdd rd ra rb => Sys2Proof.Machine.execFp6LAdd rd ra rb s
  | .fp6Mul rd ra rb => Sys2Proof.Machine.execFp6Mul rd ra rb s
  | .fp6Square rd ra => Sys2Proof.Machine.execFp6Square rd ra s
  | .fp6CycSq rd ra => Sys2Proof.Machine.execFp6CycSq rd ra s
  | .fp6Inv rd ra => Sys2Proof.Machine.execFp6Inv rd ra s
  | .fp6Exp rd ra rb => Sys2Proof.Machine.execFp6Exp rd ra rb s
  | .fp6Conj rd ra => Sys2Proof.Machine.execFp6Conj rd ra s
  | .fp6Frob rd ra imm8 => Sys2Proof.Machine.execFp6Frob rd ra imm8 s
  | .fp6Mul014 rd ra rb rc => Sys2Proof.Machine.execFp6Mul014 rd ra rb rc s
  | .fp6Mul034 rd ra rb rc => Sys2Proof.Machine.execFp6Mul034 rd ra rb rc s
  | .fp6Eq ra rb => Sys2Proof.Machine.execFp6Eq ra rb s
  | .fp6IsZero ra => Sys2Proof.Machine.execFp6IsZero ra s
  | .fp6IsOne ra => Sys2Proof.Machine.execFp6IsOne ra s
  | .fp6IsValid ra => Sys2Proof.Machine.execFp6IsValid ra s
  -- G1 point commands (43_curve.md)
  | .g1Zero rd => Sys2Proof.Machine.execG1Zero rd s
  | .g1Gen rd => Sys2Proof.Machine.execG1Gen rd s
  | .g1Mov rd ra => Sys2Proof.Machine.execG1Mov rd ra s
  | .g1Ld rd => Sys2Proof.Machine.execG1Ld rd s
  | .g1St ra => Sys2Proof.Machine.execG1St ra s
  | .g1Set rd ra rb rc => Sys2Proof.Machine.execG1Set rd ra rb rc s
  | .g1Get rd ra imm8 => Sys2Proof.Machine.execG1Get rd ra imm8 s
  | .g1Add rd ra rb => Sys2Proof.Machine.execG1Add rd ra rb s
  | .g1Double rd ra => Sys2Proof.Machine.execG1Double rd ra s
  | .g1Neg rd ra => Sys2Proof.Machine.execG1Neg rd ra s
  | .g1Sub rd ra rb => Sys2Proof.Machine.execG1Sub rd ra rb s
  | .g1Affine rd ra => Sys2Proof.Machine.execG1Affine rd ra s
  | .g1IsOnCurve ra => Sys2Proof.Machine.execG1IsOnCurve ra s
  | .g1IsAffine ra => Sys2Proof.Machine.execG1IsAffine ra s
  | .g1IsInf ra => Sys2Proof.Machine.execG1IsInf ra s
  | .g1Eq ra rb => Sys2Proof.Machine.execG1Eq ra rb s
  -- G1 scalar multiplication (44_msm.md)
  | .g1MulSc rd ra rb => Sys2Proof.Machine.execG1MulSc rd ra rb s
  | .g1ClrCof rd ra => Sys2Proof.Machine.execG1ClrCof rd ra s
  | .g1Msm rd ra rb imm8 => Sys2Proof.Machine.execG1Msm rd ra rb imm8 s
  -- G2 point commands (43_curve.md)
  | .g2Zero rd => Sys2Proof.Machine.execG2Zero rd s
  | .g2Gen rd => Sys2Proof.Machine.execG2Gen rd s
  | .g2Mov rd ra => Sys2Proof.Machine.execG2Mov rd ra s
  | .g2Ld rd => Sys2Proof.Machine.execG2Ld rd s
  | .g2St ra => Sys2Proof.Machine.execG2St ra s
  | .g2Set rd ra rb rc => Sys2Proof.Machine.execG2Set rd ra rb rc s
  | .g2Get rd ra imm8 => Sys2Proof.Machine.execG2Get rd ra imm8 s
  | .g2Add rd ra rb => Sys2Proof.Machine.execG2Add rd ra rb s
  | .g2Double rd ra => Sys2Proof.Machine.execG2Double rd ra s
  | .g2Neg rd ra => Sys2Proof.Machine.execG2Neg rd ra s
  | .g2Sub rd ra rb => Sys2Proof.Machine.execG2Sub rd ra rb s
  | .g2Affine rd ra => Sys2Proof.Machine.execG2Affine rd ra s
  | .g2IsOnCurve ra => Sys2Proof.Machine.execG2IsOnCurve ra s
  | .g2IsAffine ra => Sys2Proof.Machine.execG2IsAffine ra s
  | .g2IsInf ra => Sys2Proof.Machine.execG2IsInf ra s
  | .g2Eq ra rb => Sys2Proof.Machine.execG2Eq ra rb s
  -- G2 scalar multiplication (44_msm.md)
  | .g2MulSc rd ra rb => Sys2Proof.Machine.execG2MulSc rd ra rb s
  | .g2ClrCof rd ra => Sys2Proof.Machine.execG2ClrCof rd ra s
  | .g2Msm rd ra rb imm8 => Sys2Proof.Machine.execG2Msm rd ra rb imm8 s
  | .g2InSub ra => Sys2Proof.Machine.execG2InSub ra s
  -- Pairing commands (45_pairing.md)
  | .pairAdd ra rb => Sys2Proof.Machine.execPairAdd ra rb s
  | .pairAddInv ra rb => Sys2Proof.Machine.execPairAddInv ra rb s
  | .pairReset => Sys2Proof.Machine.execPairReset s
  | .pairResult rd => Sys2Proof.Machine.execPairResult rd s
  | .pairCheck => Sys2Proof.Machine.execPairCheck s
  | .pairMiller rd => Sys2Proof.Machine.execPairMiller rd s
  | .fexp rd ra => Sys2Proof.Machine.execFexp rd ra s
  | .fexpEasy rd ra => Sys2Proof.Machine.execFexpEasy rd ra s
  | .fexpHard rd ra => Sys2Proof.Machine.execFexpHard rd ra s

end Sys2Proof.Machine
end

