-- ==== Sys2Proof/Machine/Step.lean ====
section
/-! DEFINITION. One step: the next action of the host on the CORE. -/
namespace Sys2Proof.Machine

/-- The command that a presented word is: the decoded command's effect, or error entry (R80, R91). -/
def execWord (w : Word) (s : State) : Result :=
  match decode w with
  | .ok i => exec i s
  | .error _ => raise .illegalCommand w s

/-- What the CORE is after a reset between two commands (R350, R351): the state after reset. Kept are what is not the
CORE's: the rest of the host's actions, the constants, and the count of free values taken. -/
def resetCore (s : State) : State := { State.reset with host := s.host, draws := s.draws, cfg := s.cfg }

/-- One step. With no action left the CORE waits and holds all its state (R347, R351). -/
def step (s : State) : Host.Outcome State Fault Refusal :=
  match s.host with
  | [] => .next s
  | .command w :: rest => execWord w { s with host := rest }
  | .write a b :: rest =>
    if a < s.cfg.dmemSize then .next { s with host := rest, dmem := writeByte s.dmem a b }
    else .fault .hostWriteOutsideDmem
  | .reset :: rest => .next (resetCore { s with host := rest })

/-- The state with the word of a table row presented as the host's next action. -/
def State.withFetchWord (s : State) (nbits w : Nat) : State :=
  { s with host := .command (BitVec.ofNat 32 (w % 2 ^ nbits)) :: s.host }

end Sys2Proof.Machine
end

