-- ==== Sys2Proof/Safety.lean ====
section
/-! DEFINITION. The terms claims are stated in: what the spec asks of the parameters, the invariant of the machine,
what each command may write, which error it has to record, and the values a result has to denote. -/
namespace Sys2Proof

/-! ### The parameters -/

/-- What the arithmetic of the registers needs of the parameters: an odd modulus above 4 that leaves two lazy values
room in 768 bits (R9), a buffer that `DPTR` can reach (R11), a list that `NPAIRS` can count (R31). -/
structure Config.Sized (c : Config) : Prop where
  odd : c.pMod % 2 = 1
  low : 4 < c.pMod
  high : c.pMod < 2 ^ 761
  buffer : c.dmemSize ≤ 2 ^ 24
  list : c.maxPairs ≤ 255

/-- What R9 and R10 ask of the modulus: a prime of 761 bits, 7 modulo 12, with `BETA` no cube. -/
structure Config.FieldLegal (c : Config) : Prop where
  prime : c.pMod.Prime
  low : 2 ^ 760 ≤ c.pMod
  high : c.pMod < 2 ^ 761
  mod12 : c.pMod % 12 = 7
  nonCube : ∀ x, x ^ 3 % c.pMod ≠ c.beta

/-- What R10 asks of the order and of `HARD_MULT`: `r` a prime that divides `p² − p + 1`, the multiplier a positive
integer coprime to `r` (R305, D22). -/
structure Config.OrderLegal (c : Config) : Prop where
  prime : c.rOrd.Prime
  divides : c.rOrd ∣ c.pMod ^ 2 - c.pMod + 1
  multPos : 0 < c.hardMult
  multCoprime : Nat.Coprime c.hardMult c.rOrd

/-- Every constraint that R9, R10 and R11 put on the parameters: those of the field and of the order, positive loop
counters (R293) that make 288 coefficient triples (R297), windows of at least one bit (R272), a buffer that `DPTR` can
reach and a list that `NPAIRS` can count. -/
structure Config.Legal (c : Config) : Prop where
  field : c.FieldLegal
  order : c.OrderLegal
  loops : 0 < c.ateLoop1 ∧ 0 < c.ateLoop2
  triples : c.lineTriples = 288
  windows : ∀ n < 9, 1 ≤ c.window n
  buffer : c.dmemSize ≤ 2 ^ 24
  list : c.maxPairs ≤ 255

/-- The value `v` is valid and denotes the residue `a` (R13). -/
def Config.Denotes (c : Config) (v : Fp) (a : Nat) : Prop := v.toNat < c.pMod ∧ c.dec v = a

/-- Valid components that denote the residues of `a` (R160). -/
def Config.Denotes3 (c : Config) (v : CubicElt Fp) (a : CubicElt Nat) : Prop :=
  c.Denotes v.c0 a.c0 ∧ c.Denotes v.c1 a.c1 ∧ c.Denotes v.c2 a.c2

/-- Valid components that denote the residues of `a` (R191). -/
def Config.Denotes6 (c : Config) (v : SexticElt Fp) (a : SexticElt Nat) : Prop :=
  c.Denotes3 v.a0 a.a0 ∧ c.Denotes3 v.a1 a.a1

/-- `A^e` as `e` factors (R180). -/
def Config.power3 (c : Config) (a : CubicElt Nat) : Nat → CubicElt Nat
  | 0 => c.one3
  | e + 1 => c.mul3 (c.power3 a e) a

/-- `A^e` as `e` factors (R211). -/
def Config.power6 (c : Config) (a : SexticElt Nat) : Nat → SexticElt Nat
  | 0 => c.one6
  | e + 1 => c.mul6 (c.power6 a e) a

/-- The double-and-add scan of R271 over the group law of R222. -/
def Config.scanMultiple (c : Config) (k : Nat) (a : Option (Affine Nat)) : Option (Affine Nat) :=
  ladder (fun acc => c.groupAdd acc acc) (fun acc => c.groupAdd acc a) none k

/-- The value of a list of digits, least significant first, under the top digit 1 (R295). -/
def digitsValue : List Digit → Int
  | [] => 1
  | d :: rest => 2 * digitsValue rest + d.toInt

/-- No two adjacent digits are both non-zero (R295). -/
def NonAdjacent : List Digit → Prop
  | d :: e :: rest => (d = .zero ∨ e = .zero) ∧ NonAdjacent (e :: rest)
  | _ => True

/-- The affine point of a triple in the homogeneous projective coordinates of the Miller loop, `none` for infinity
(R298). -/
def Config.denoteHom (c : Config) (t : Point Nat) : Option (Affine Nat) :=
  if t.z = 0 then none else some ⟨c.mul t.x (c.inv t.z), c.mul t.y (c.inv t.z)⟩

/-- One loop of R296 for one pair alone: the accumulator and the running point after the digits, the digit processed
last standing first. -/
def Config.loopOf (c : Config) (k : Pair Nat) : List Digit → SexticElt Nat × Point Nat
  | [] => (c.one6, ⟨k.qx, k.qy, 1 % c.pMod⟩)
  | d :: before =>
    let (f, t) := loopOf c k before
    let (t2, tangent) := c.doublingStep t
    let f2 := c.ell (c.mul6 f f) tangent k.px k.py
    let joining (qy : Nat) : SexticElt Nat × Point Nat :=
      let (t3, chord) := c.additionStep t2 k.qx qy
      (c.ell f2 chord k.px k.py, t3)
    match d with
    | .zero => (f2, t2)
    | .plus => joining k.qy
    | .minus => joining ((c.pMod - k.qy) % c.pMod)

/-- The product over the pairs of the loop of each alone (R291). -/
def Config.productOfLoops (c : Config) (pairs : List (Pair Nat)) (digits : List Digit) : SexticElt Nat :=
  pairs.foldr (fun k acc => c.mul6 (c.loopOf k digits).1 acc) c.one6

/-! ### What a command may write -/

/-- A register of one of the six files (R20). -/
inductive Register where
  | fp (i : FpIdx)
  | fp3 (i : Idx)
  | fp6 (i : Idx)
  | g1 (i : Idx)
  | g2 (i : Idx)
  | sc (i : Idx)
  deriving DecidableEq, Repr

/-- The register a command writes: the operand `rd` of the opcode map, where the row has one (R90). -/
def Instr.destination : Instr → Option Register
  | .nop => none
  | .setPtr _ => none
  | .setLen _ => none
  | .clrErr => none
  | .scLdi rd _ => some (.sc rd)
  | .scLd rd => some (.sc rd)
  | .scSt _ => none
  | .scMov rd _ => some (.sc rd)
  | .fpZero rd => some (.fp rd)
  | .fpOne rd => some (.fp rd)
  | .fpModulus rd => some (.fp rd)
  | .fpMov rd _ => some (.fp rd)
  | .fpLd rd => some (.fp rd)
  | .fpSt _ => none
  | .fpFromSc rd _ => some (.fp rd)
  | .fpToSc rd _ => some (.sc rd)
  | .fpToMont rd _ => some (.fp rd)
  | .fpFromMont rd _ => some (.fp rd)
  | .fpAdd rd _ _ => some (.fp rd)
  | .fpSub rd _ _ => some (.fp rd)
  | .fpDouble rd _ => some (.fp rd)
  | .fpNeg rd _ => some (.fp rd)
  | .fpLAdd rd _ _ => some (.fp rd)
  | .fpLDouble rd _ => some (.fp rd)
  | .fpLSub rd _ _ => some (.fp rd)
  | .fpMul rd _ _ => some (.fp rd)
  | .fpSquare rd _ => some (.fp rd)
  | .fpInv rd _ => some (.fp rd)
  | .fpExp rd _ _ => some (.fp rd)
  | .fpSqrt rd _ => some (.fp rd)
  | .fpIsQnr _ => none
  | .fpMulNr rd _ => some (.fp rd)
  | .fpCmp _ _ => none
  | .fpEq _ _ => none
  | .fpIsZero _ => none
  | .fpIsOne _ => none
  | .fpIsOdd _ => none
  | .fpIsEven _ => none
  | .fpIsValid _ => none
  | .fp3Zero rd => some (.fp3 rd)
  | .fp3One rd => some (.fp3 rd)
  | .fp3Mov rd _ => some (.fp3 rd)
  | .fp3Ld rd => some (.fp3 rd)
  | .fp3St _ => none
  | .fp3Set rd _ _ _ => some (.fp3 rd)
  | .fp3Get rd _ _ => some (.fp rd)
  | .fp3Add rd _ _ => some (.fp3 rd)
  | .fp3Sub rd _ _ => some (.fp3 rd)
  | .fp3Double rd _ => some (.fp3 rd)
  | .fp3Neg rd _ => some (.fp3 rd)
  | .fp3LAdd rd _ _ => some (.fp3 rd)
  | .fp3Mul rd _ _ => some (.fp3 rd)
  | .fp3Square rd _ => some (.fp3 rd)
  | .fp3Inv rd _ => some (.fp3 rd)
  | .fp3Exp rd _ _ => some (.fp3 rd)
  | .fp3Frob rd _ _ => some (.fp3 rd)
  | .fp3Mul0 rd _ _ => some (.fp3 rd)
  | .fp3Eq _ _ => none
  | .fp3IsZero _ => none
  | .fp3IsOne _ => none
  | .fp6Zero rd => some (.fp6 rd)
  | .fp6One rd => some (.fp6 rd)
  | .fp6Mov rd _ => some (.fp6 rd)
  | .fp6Ld rd => some (.fp6 rd)
  | .fp6St _ => none
  | .fp6Set rd _ _ => some (.fp6 rd)
  | .fp6Get rd _ _ => some (.fp3 rd)
  | .fp6Add rd _ _ => some (.fp6 rd)
  | .fp6Sub rd _ _ => some (.fp6 rd)
  | .fp6Double rd _ => some (.fp6 rd)
  | .fp6Neg rd _ => some (.fp6 rd)
  | .fp6LAdd rd _ _ => some (.fp6 rd)
  | .fp6Mul rd _ _ => some (.fp6 rd)
  | .fp6Square rd _ => some (.fp6 rd)
  | .fp6CycSq rd _ => some (.fp6 rd)
  | .fp6Inv rd _ => some (.fp6 rd)
  | .fp6Exp rd _ _ => some (.fp6 rd)
  | .fp6Conj rd _ => some (.fp6 rd)
  | .fp6Frob rd _ _ => some (.fp6 rd)
  | .fp6Mul014 rd _ _ _ => some (.fp6 rd)
  | .fp6Mul034 rd _ _ _ => some (.fp6 rd)
  | .fp6Eq _ _ => none
  | .fp6IsZero _ => none
  | .fp6IsOne _ => none
  | .fp6IsValid _ => none
  | .g1Zero rd => some (.g1 rd)
  | .g1Gen rd => some (.g1 rd)
  | .g1Mov rd _ => some (.g1 rd)
  | .g1Ld rd => some (.g1 rd)
  | .g1St _ => none
  | .g1Set rd _ _ _ => some (.g1 rd)
  | .g1Get rd _ _ => some (.fp rd)
  | .g1Add rd _ _ => some (.g1 rd)
  | .g1Double rd _ => some (.g1 rd)
  | .g1Neg rd _ => some (.g1 rd)
  | .g1Sub rd _ _ => some (.g1 rd)
  | .g1Affine rd _ => some (.g1 rd)
  | .g1IsOnCurve _ => none
  | .g1IsAffine _ => none
  | .g1IsInf _ => none
  | .g1Eq _ _ => none
  | .g1MulSc rd _ _ => some (.g1 rd)
  | .g1ClrCof rd _ => some (.g1 rd)
  | .g1Msm rd _ _ _ => some (.g1 rd)
  | .g2Zero rd => some (.g2 rd)
  | .g2Gen rd => some (.g2 rd)
  | .g2Mov rd _ => some (.g2 rd)
  | .g2Ld rd => some (.g2 rd)
  | .g2St _ => none
  | .g2Set rd _ _ _ => some (.g2 rd)
  | .g2Get rd _ _ => some (.fp rd)
  | .g2Add rd _ _ => some (.g2 rd)
  | .g2Double rd _ => some (.g2 rd)
  | .g2Neg rd _ => some (.g2 rd)
  | .g2Sub rd _ _ => some (.g2 rd)
  | .g2Affine rd _ => some (.g2 rd)
  | .g2IsOnCurve _ => none
  | .g2IsAffine _ => none
  | .g2IsInf _ => none
  | .g2Eq _ _ => none
  | .g2MulSc rd _ _ => some (.g2 rd)
  | .g2ClrCof rd _ => some (.g2 rd)
  | .g2Msm rd _ _ _ => some (.g2 rd)
  | .g2InSub _ => none
  | .pairAdd _ _ => none
  | .pairAddInv _ _ => none
  | .pairReset => none
  | .pairResult rd => some (.fp6 rd)
  | .pairCheck => none
  | .pairMiller rd => some (.fp6 rd)
  | .fexp rd _ => some (.fp6 rd)
  | .fexpEasy rd _ => some (.fp6 rd)
  | .fexpHard rd _ => some (.fp6 rd)

/-- The commands that write `FLAG.B` (R33). -/
def Instr.writesB : Instr → Bool
  | .fpSqrt _ _ | .fpIsQnr _ | .fpEq _ _ | .fpIsZero _ | .fpIsOne _ | .fpIsOdd _ | .fpIsEven _ | .fpIsValid _ => true
  | .fp3Eq _ _ | .fp3IsZero _ | .fp3IsOne _ => true
  | .fp6Eq _ _ | .fp6IsZero _ | .fp6IsOne _ | .fp6IsValid _ => true
  | .g1IsOnCurve _ | .g1IsAffine _ | .g1IsInf _ | .g1Eq _ _ => true
  | .g2IsOnCurve _ | .g2IsAffine _ | .g2IsInf _ | .g2Eq _ _ | .g2InSub _ => true
  | .pairCheck => true
  | _ => false

/-- The commands that write `FLAG.CMP` (R33). -/
def Instr.writesCmp : Instr → Bool
  | .fpCmp _ _ => true
  | _ => false

/-- The commands that write the pair list (R29). -/
def Instr.writesPairs : Instr → Bool
  | .pairAdd _ _ | .pairAddInv _ _ | .pairReset | .pairResult _ | .pairCheck => true
  | _ => false

/-- How many bytes a command stores, 0 for a command that stores nothing (R51, R57). -/
def Instr.storeWidth : Instr → Nat
  | .scSt _ | .fpSt _ => 96
  | .fp3St _ => 288
  | .fp6St _ => 576
  | .g1St _ | .g2St _ => 192
  | _ => 0

/-- The commands that load from the data buffer, with the lengths their decoder accepts (R57). -/
def Instr.loadLength : Instr → Option (Nat → Bool)
  | .scLd _ => some (fun n => decide (n ≤ 96))
  | .fpLd _ => some (fun _ => true)
  | .fp3Ld _ => some (fun n => n == 288)
  | .fp6Ld _ => some (fun n => n == 576)
  | .g1Ld _ | .g2Ld _ => some (fun n => n == 192)
  | _ => none

/-- The commands of the base field family: opcodes `0x10` to `0x2E` (R90). -/
def Instr.isBaseField (i : Instr) : Bool :=
  decide (0x10 ≤ (opcodeOf (encode i)).toNat) && decide ((opcodeOf (encode i)).toNat ≤ 0x2E)

namespace Machine

/-! ### Errors -/

/-- The 192 bytes at `DPTR` fail the content check of a point decode: they are not all zero, and a coordinate is out
of range or the curve equation does not hold (R65, R331). -/
def State.offCurve (s : State) (g : CurveGroup) : Prop :=
  let c := s.cfg
  let str := memRead s.dmem s.dptr.toNat 192
  let x := be (str.take 96)
  let y := be (str.drop 96)
  (∃ b ∈ str, b ≠ 0) ∧
    (c.pMod ≤ x ∨ c.pMod ≤ y ∨ c.mont y y ≠ (c.mont (c.mont x x) x + (c.enc (curveB c g)).toNat) % c.pMod)

/-- The group whose points a load command decodes. -/
def decodedGroup : Instr → Option CurveGroup
  | .g1Ld _ => some .g1
  | .g2Ld _ => some .g2
  | _ => none

/-- The registers of the two points a command queues (R310, R311). -/
def queuedRegisters : Instr → Option (Idx × Idx)
  | .pairAdd ra rb | .pairAddInv ra rb => some (ra, rb)
  | _ => none

/-- The error a command has to record: the condition of each code (R331), under the priority of R336. -/
inductive Errs (i : Instr) (s : State) : CoreError → Prop where
  | illegal : ¬i.WellFormed → Errs i s .illegalCommand
  | loadRange : i.loadLength.isSome → s.cfg.dmemSize < s.dptr.toNat + s.dlen.toNat → Errs i s .dmemRange
  | storeRange : 0 < i.storeWidth → s.cfg.dmemSize < s.dptr.toNat + i.storeWidth → Errs i s .dmemRange
  | format (ok : Nat → Bool) : i.loadLength = some ok → s.dptr.toNat + s.dlen.toNat ≤ s.cfg.dmemSize →
      ok s.dlen.toNat = false → Errs i s .formatError
  | content (g : CurveGroup) : decodedGroup i = some g → s.dptr.toNat + s.dlen.toNat ≤ s.cfg.dmemSize →
      s.dlen.toNat = 192 → s.offCurve g → Errs i s .notOnCurveError
  | full (ra rb : Idx) : queuedRegisters i = some (ra, rb) → s.pairs.length = s.cfg.maxPairs →
      (s.getPoint .g1 ra).z ≠ 0 → (s.getPoint .g2 rb).z ≠ 0 → Errs i s .pairListFull

/-- The state after error entry (R333). -/
def errorEntry (e : CoreError) (command : Word) (s : State) : State :=
  { s with
    err := if s.err = 0 then errorCode e else s.err
    errcmd := if s.err = 0 then command else s.errcmd
    erridx := if s.err = 0 then s.cmdcnt else s.erridx
    cmdcnt := s.cmdcnt + 1 }

/-- The state with one more command counted (R35). -/
def State.counted (s : State) : State := { s with cmdcnt := s.cmdcnt + 1 }

/-- Fp values joined into one integer, the first the most significant (R63, R64, R65). -/
def joined (values : List Fp) : Nat := values.foldl (fun acc x => acc * 2 ^ 768 + x.toNat) 0

/-- The six components of an Fp6 value in the order of R23. -/
def components (a : SexticElt Fp) : List Fp := [a.a0.c0, a.a0.c1, a.a0.c2, a.a1.c0, a.a1.c1, a.a1.c2]

/-- The bytes that a load command reads (R54). -/
def State.loaded (s : State) : List Byte := memRead s.dmem s.dptr.toNat s.dlen.toNat

/-- The command answers the state in which the `n` bytes from `DPTR` on are the big-endian form of `value`, every
other byte is as before, `draws` free values are taken and nothing else differs but `CMDCNT` (R53, R55). -/
def Stores (i : Instr) (s : State) (n value draws : Nat) : Prop :=
  ∃ m : Memory, exec i s = .next { s with dmem := m, draws := s.draws + draws, cmdcnt := s.cmdcnt + 1 } ∧
    ∀ a, readByte m a =
      if s.dptr.toNat ≤ a ∧ a < s.dptr.toNat + n then BitVec.ofNat 8 (value / 256 ^ (n - 1 - (a - s.dptr.toNat)))
      else readByte s.dmem a

/-- The command answers the state in which `rd` holds `v`, nothing else differing but `CMDCNT`. -/
def SetsFp (i : Instr) (s : State) (rd : FpIdx) (v : Fp) : Prop := exec i s = .next (s.setFp rd v).counted

def SetsFp3 (i : Instr) (s : State) (rd : Idx) (v : CubicElt Fp) : Prop := exec i s = .next (s.setFp3 rd v).counted

def SetsFp6 (i : Instr) (s : State) (rd : Idx) (v : SexticElt Fp) : Prop := exec i s = .next (s.setFp6 rd v).counted

def SetsSc (i : Instr) (s : State) (rd : Idx) (v : Fp) : Prop := exec i s = .next (s.setSc rd v).counted

def SetsPoint (i : Instr) (s : State) (g : CurveGroup) (rd : Idx) (v : Point Fp) : Prop :=
  exec i s = .next (s.setPoint g rd v).counted

/-- The command answers the state in which `rd` holds a point drawn from a class, three free values being taken. -/
def DrawsPoint (i : Instr) (s : State) (g : CurveGroup) (rd : Idx) (v : Point Fp) : Prop :=
  exec i s = .next ((s.setPoint g rd v).spend 3).counted

/-- The command answers the state in which `FLAG.B` holds `b`, nothing else differing but `CMDCNT`. -/
def SetsB (i : Instr) (s : State) (b : Bool) : Prop := exec i s = .next (s.setB b).counted

/-- The command answers the state in which `FLAG.B` holds a drawn bit. -/
def DrawsB (i : Instr) (s : State) : Prop := exec i s = .next ((s.setB ((s.free 0).getLsbD 0)).spend 1).counted

/-! ### The invariant -/

/-- The four values of an entry of the pair list are valid (R29). -/
def validPair (c : Config) (k : Pair Fp) : Bool := valid c k.px && valid c k.py && valid c k.qx && valid c k.qy

/-- What every step keeps: the parameters are sized, the data buffer is canonical and inside its bounds (R37), the
pair list fits and holds valid entries (R29), `ERR` holds a code and its companions are 0 when it is 0 (R32, R333),
`FLAG.CMP` is never `0b10` (R33). -/
structure State.Inv (s : State) : Prop where
  sized : s.cfg.Sized
  canonical : Memory.wf s.dmem
  inside : Memory.within s.dmem s.cfg.dmemSize
  fits : s.pairs.length ≤ s.cfg.maxPairs
  entriesValid : ∀ k ∈ s.pairs, validPair s.cfg k = true
  legalCode : s.err.toNat ≤ 5
  clearTogether : s.err = 0 → s.errcmd = 0 ∧ s.erridx = 0
  cmpLegal : flagCmp s.flag ≠ 0b10

end Machine
end Sys2Proof
end

