-- ==== Sys2Proof/Certificates/Slice0/Obligations.lean ====
section
/-! DEFINITION. The statements about the machine, each from the numbered rules its docstring names. -/

open Sys2Proof Sys2Proof.Machine

/-- The ten legal words of R95 decode to the commands and operands beside them, and the two illegal ones raise
IllegalCommand. (R95.) -/
def Obligations.WorkedEncodings : Prop :=
  decode 0x00000000 = .ok .nop ∧
  decode 0x01000100 = .ok (.setPtr 0x100) ∧
  decode 0x02000060 = .ok (.setLen 96) ∧
  decode 0x04100002 = .ok (.scLdi 1 2) ∧
  decode 0x21312000 = .ok (.fpMul 3 1 2) ∧
  decode 0x15030000 = .ok (.fpSt 3) ∧
  decode 0x62100001 = .ok (.fp6Frob 1 0 1) ∧
  decode 0x63045600 = .ok (.fp6Mul014 0 4 5 6) ∧
  decode 0x82011002 = .ok (.g1Msm 0 1 1 2) ∧
  decode 0xB0000000 = .ok (.pairAdd 0 0) ∧
  ∀ s : State, ∀ w ∈ [(0x30800000 : Word), 0x1A123001], execWord w s = .next (errorEntry .illegalCommand w s)

/-- For every well-formed command of the whole opcode map, with every operand at every value its field admits, decode
of encode is the command. (R82, R83, R84, R87, R89, R90.) -/
def Obligations.DecodeOfEncode : Prop :=
  ∀ i : Instr, i.WellFormed → decode (encode i) = .ok i

/-- Every legal word is exactly the encoding of the command it decodes to, and that command is well-formed: no bit of
a legal word is ignored. (R87, R89, R90.) -/
def Obligations.EncodeOfDecode : Prop :=
  ∀ (w : Word) (i : Instr), decode w = .ok i → i.WellFormed ∧ encode i = w

/-- Every word that decode refuses makes the error entry of IllegalCommand and nothing else. Refused are: the words of
the 123 unassigned opcodes, a word that differs from its row under the mask (unused field or register index), and
the word of a command whose immediates are out of range. (R91.) -/
def Obligations.IllegalWords : Prop :=
  (∀ (w : Word) (s : State) (e : Illegal), decode w = .error e →
    execWord w s = .next (errorEntry .illegalCommand w s)) ∧
  (∀ range ∈ [(0x08, 0x0F), (0x2F, 0x2F), (0x45, 0x4F), (0x69, 0x6F), (0x83, 0x8F), (0xA4, 0xAF), (0xB9, 0xFF)],
    ∀ w : Word, range.1 ≤ (opcodeOf w).toNat → (opcodeOf w).toNat ≤ range.2 → ∃ e, decode w = .error e) ∧
  (∀ (w : Word), ∀ row ∈ opcodeMap, row.opcode = opcodeOf w → w &&& row.mask ≠ row.pattern →
    ∃ e, decode w = .error e) ∧
  (∀ i : Instr, ¬i.WellFormed → ∃ e, decode (encode i) = .error e)

/-- When the next action of the host presents a word, step is exec of the decoded command on the state with that
action taken off (the model's own list of host actions, log entry 1); an illegal word makes the error entry. (R80,
R89, R91.) -/
def Obligations.StepRunsPresentedCommand : Prop :=
  ∀ (s : State) (w : Word) (rest : List HostAction), s.host = .command w :: rest →
    (∀ i, decode w = .ok i → step s = exec i { s with host := rest }) ∧
    (∀ e, decode w = .error e → step s = .next (errorEntry .illegalCommand w { s with host := rest }))

/-- With no host action left a step changes nothing. A host write to a byte of the buffer writes that byte only; to
any other address it is the fault of log entry 7, the model's own choice. A reset leaves the control registers 0
and the pair list empty and keeps the constants. The list of host actions is the model's (log entry 1). (R38,
R347, R350, R351.) -/
def Obligations.HostMoves : Prop :=
  (∀ s : State, s.host = [] → step s = .next s) ∧
  (∀ (s : State) (a : Nat) (b : Byte) (rest : List HostAction), s.host = .write a b :: rest →
    (a < s.cfg.dmemSize → ∃ m : Memory, step s = .next { s with host := rest, dmem := m } ∧
      ∀ x, readByte m x = if x = a then b else readByte s.dmem x) ∧
    (s.cfg.dmemSize ≤ a → step s = .fault .hostWriteOutsideDmem)) ∧
  (∀ (s : State) (rest : List HostAction), s.host = .reset :: rest → ∃ t, step s = .next t ∧
    t.err = 0 ∧ t.errcmd = 0 ∧ t.erridx = 0 ∧ t.flag = 0 ∧ t.dptr = 0 ∧ t.dlen = 0 ∧ t.cmdcnt = 0 ∧ t.pairs = [] ∧
    t.npairs = 0 ∧ t.host = rest ∧ t.cfg = s.cfg)

/-- After reset the control registers are 0 and the pair list is empty, and PAIR.CHECK as the first command sets
FLAG.B to 1. The data registers and the buffer, which the spec leaves unspecified (log entries 5 and 6), are not
stated. (R351, R41.) -/
def Obligations.ResetState : Prop :=
  State.reset.err = 0 ∧ State.reset.errcmd = 0 ∧ State.reset.erridx = 0 ∧ flagB State.reset.flag = false ∧
  flagCmp State.reset.flag = 0b00 ∧ State.reset.dptr = 0 ∧ State.reset.dlen = 0 ∧ State.reset.cmdcnt = 0 ∧
  State.reset.pairs = [] ∧ State.reset.npairs = 0 ∧
  SetsB .pairCheck State.reset true

/-- The reset state meets the invariant State.Inv (canonical buffer inside its bounds, pair list that fits and holds
valid entries, legal error registers, legal FLAG). It rests on the parameter set of log entry 4 being sized. (R41,
R351.) -/
def Obligations.InvariantAtReset : Prop :=
  State.reset.Inv

/-- From every state that meets State.Inv, a step that answers a next state answers one that meets it: the buffer
stays canonical and inside its bounds, the pair list never outgrows its capacity and holds valid values only, ERR
stays a code from 0 to 5 with its companions 0 when it is 0, FLAG.CMP is never 0b10, the parameters stay sized.
(R29, R32, R33, R37, R333, R353.) -/
def Obligations.StepKeepsInvariant : Prop :=
  ∀ s t : State, s.Inv → step s = .next t → t.Inv

/-- In every state that meets the invariant the 8-bit NPAIRS equals the number of entries of the pair list. (R36.) -/
def Obligations.NpairsIsListLength : Prop :=
  ∀ s : State, s.Inv → s.npairs.toNat = s.pairs.length

/-- Whatever a step does (a command, an error, a host write, a reset), the parameters of the machine are unchanged.
(R353.) -/
def Obligations.ConstantsNeverChange : Prop :=
  ∀ s t : State, step s = .next t → t.cfg = s.cfg

/-- Every command, and every presented word legal or illegal, answers a next state from every state, with CMDCNT one
more modulo 2^64. (R35.) -/
def Obligations.CommandsCompleteAndCount : Prop :=
  (∀ (i : Instr) (s : State), ∃ t, exec i s = .next t ∧ t.cmdcnt.toNat = (s.cmdcnt.toNat + 1) % 2 ^ 64) ∧
  (∀ (w : Word) (s : State), ∃ t, execWord w s = .next t ∧ t.cmdcnt.toNat = (s.cmdcnt.toNat + 1) % 2 ^ 64)

/-- Where a condition of R331 holds, under the priority of R336, the command makes the error entry of R333 with that
code and its own word: recorded if ERR was 0, dropped otherwise, CMDCNT counted, nothing else changed. The codes
are those of R331. (R331, R333, R336.) -/
def Obligations.ErrorEntry : Prop :=
  errorCode .formatError = 1 ∧ errorCode .notOnCurveError = 2 ∧ errorCode .illegalCommand = 3 ∧
  errorCode .dmemRange = 4 ∧ errorCode .pairListFull = 5 ∧
  (∀ (i : Instr) (s : State) (e : CoreError), Errs i s e → exec i s = .next (errorEntry e (encode i) s)) ∧
  (∀ (w : Word) (i : Instr) (s : State) (e : CoreError), decode w = .ok i → Errs i s e →
    execWord w s = .next (errorEntry e w s))

/-- A command for which no condition of R331 holds leaves ERR, ERRCMD and ERRIDX as they were, unless it is CLRERR,
which leaves them 0. (R331, R32, R338.) -/
def Obligations.NoOtherError : Prop :=
  ∀ (i : Instr) (s t : State), (∀ e, ¬Errs i s e) → exec i s = .next t →
    (i = .clrErr → t.err = 0 ∧ t.errcmd = 0 ∧ t.erridx = 0) ∧
    (i ≠ .clrErr → t.err = s.err ∧ t.errcmd = s.errcmd ∧ t.erridx = s.erridx)

/-- Two states that differ only in ERR, ERRCMD and ERRIDX are taken by a command to states that differ only in these
three. (R335.) -/
def Obligations.ErrorsMaskNothing : Prop :=
  ∀ (i : Instr) (s t : State) (err : BitVec 8) (errcmd : Word) (erridx : BitVec 64), exec i s = .next t →
    ∃ u, exec i { s with err := err, errcmd := errcmd, erridx := erridx } = .next u ∧
      { u with err := t.err, errcmd := t.errcmd, erridx := t.erridx } = t

/-- Every command but SETPTR keeps DPTR, every command but SETLEN keeps DLEN, loads, stores and failing commands
included. (R34.) -/
def Obligations.PointerFrame : Prop :=
  ∀ (i : Instr) (s t : State), exec i s = .next t →
    ((∀ a, i ≠ .setPtr a) → t.dptr = s.dptr) ∧ ((∀ n, i ≠ .setLen n) → t.dlen = s.dlen)

/-- A command other than PAIR.ADD, PAIR.ADDINV, PAIR.RESET, PAIR.RESULT and PAIR.CHECK keeps the pair list; these five
leave it as it was, emptied, or with one entry appended at its end. (R29, R310, R312.) -/
def Obligations.PairListFrame : Prop :=
  ∀ (i : Instr) (s t : State), exec i s = .next t →
    (i.writesPairs = false → t.pairs = s.pairs) ∧
    (t.pairs = s.pairs ∨ t.pairs = [] ∨ ∃ k, t.pairs = s.pairs ++ [k])

/-- FLAG.B is kept by every command but the predicates, FP.SQRT and PAIR.CHECK; FLAG.CMP by every command but FP.CMP;
and no command writes 0b10 into FLAG.CMP. (R33.) -/
def Obligations.FlagFrame : Prop :=
  ∀ (i : Instr) (s t : State), exec i s = .next t →
    (i.writesB = false → flagB t.flag = flagB s.flag) ∧
    (i.writesCmp = false → flagCmp t.flag = flagCmp s.flag) ∧
    (flagCmp s.flag ≠ 0b10 → flagCmp t.flag ≠ 0b10)

/-- After a command every byte outside the width of its store at DPTR reads as before; a command that is no store
leaves the whole buffer as it was. (R51, R53, R57.) -/
def Obligations.BufferFrame : Prop :=
  ∀ (i : Instr) (s t : State), exec i s = .next t →
    (i.storeWidth = 0 → t.dmem = s.dmem) ∧
    (∀ a, a < s.dptr.toNat ∨ s.dptr.toNat + i.storeWidth ≤ a → readByte t.dmem a = readByte s.dmem a)

/-- Every register of the six files other than the register named by rd in the file the opcode map gives is kept by
every command; a command without rd keeps them all. The host's actions and the constants are kept too. (R28, R90,
R117.) -/
def Obligations.RegisterFrame : Prop :=
  ∀ (i : Instr) (s t : State), exec i s = .next t →
    (∀ k, i.destination ≠ some (.fp k) → t.getFp k = s.getFp k) ∧
    (∀ k, i.destination ≠ some (.fp3 k) → t.getFp3 k = s.getFp3 k) ∧
    (∀ k, i.destination ≠ some (.fp6 k) → t.getFp6 k = s.getFp6 k) ∧
    (∀ k, i.destination ≠ some (.g1 k) → t.getPoint .g1 k = s.getPoint .g1 k) ∧
    (∀ k, i.destination ≠ some (.g2 k) → t.getPoint .g2 k = s.getPoint .g2 k) ∧
    (∀ k, i.destination ≠ some (.sc k) → t.getSc k = s.getSc k) ∧
    t.host = s.host ∧ t.cfg = s.cfg

/-- A command with an opcode from 0x10 to 0x2E gives the same result whatever the FP3, FP6, G1, G2 registers and the
pair list hold, and keeps them. (R3, R90.) -/
def Obligations.BaseFieldIndependence : Prop :=
  ∀ (i : Instr) (s : State) (t3 : Vector (CubicElt Fp) 8) (t6 : Vector (SexticElt Fp) 8) (p q : Vector (Point Fp) 8)
    (l : List (Pair Fp)), i.isBaseField = true →
    ∃ t, exec i s = .next t ∧
      exec i { s with fp3 := t3, fp6 := t6, g1 := p, g2 := q, pairs := l } =
        .next { t with fp3 := t3, fp6 := t6, g1 := p, g2 := q, pairs := l }

/-- MemRead gives the n bytes from the address on, lowest address first; MemWrite sets these bytes and changes no
other byte. (R52, R53.) -/
def Obligations.BufferAccess : Prop :=
  (∀ (m : Memory) (addr n : Nat), (memRead m addr n).length = n ∧
    ∀ k < n, (memRead m addr n)[k]? = some (readByte m (addr + k))) ∧
  (∀ (m : Memory) (addr : Nat) (str : List Byte) (a : Nat), readByte (memWrite m addr str) a =
    if addr ≤ a ∧ a < addr + str.length then str.getD (a - addr) 0 else readByte m a)

/-- Each of the six answers the state in which exactly the register of its rule is written and CMDCNT is one more.
(R320, R321, R322, R323, R324, R327.) -/
def Obligations.SystemCommands : Prop :=
  ∀ s : State,
    exec .nop s = .next { s with cmdcnt := s.cmdcnt + 1 } ∧
    (∀ a, exec (.setPtr a) s = .next { s with dptr := a, cmdcnt := s.cmdcnt + 1 }) ∧
    (∀ n, exec (.setLen n) s = .next { s with dlen := n, cmdcnt := s.cmdcnt + 1 }) ∧
    exec .clrErr s = .next { s with err := 0, errcmd := 0, erridx := 0, cmdcnt := s.cmdcnt + 1 } ∧
    (∀ rd imm20, ∃ v : Fp, v.toNat = imm20.toNat ∧ SetsSc (.scLdi rd imm20) s rd v) ∧
    (∀ rd ra, SetsSc (.scMov rd ra) s rd (s.getSc ra))

/-- SC.LD of at most 96 bytes inside the buffer writes their big-endian value; a longer length is a FormatError, a
range beyond the buffer a DmemRange error. SC.ST writes the 96 big-endian bytes of the scalar, or raises
DmemRange. (R325, R326.) -/
def Obligations.ScalarLoadStore : Prop :=
  ∀ (s : State) (r : Idx),
    (s.dptr.toNat + s.dlen.toNat ≤ s.cfg.dmemSize → s.dlen.toNat ≤ 96 →
      ∃ v : Fp, v.toNat = be s.loaded ∧ SetsSc (.scLd r) s r v) ∧
    (s.dptr.toNat + s.dlen.toNat ≤ s.cfg.dmemSize → 96 < s.dlen.toNat →
      exec (.scLd r) s = .next (errorEntry .formatError (encode (.scLd r)) s)) ∧
    (s.cfg.dmemSize < s.dptr.toNat + s.dlen.toNat →
      exec (.scLd r) s = .next (errorEntry .dmemRange (encode (.scLd r)) s)) ∧
    (s.dptr.toNat + 96 ≤ s.cfg.dmemSize → Stores (.scSt r) s 96 (s.getSc r).toNat 0) ∧
    (s.cfg.dmemSize < s.dptr.toNat + 96 →
      exec (.scSt r) s = .next (errorEntry .dmemRange (encode (.scSt r)) s))

/-- Each writes its destination with the value of its rule, raw and for any value, and nothing else. (R120, R121,
R122, R123, R126, R127.) -/
def Obligations.FpConstantsAndMoves : Prop :=
  ∀ (s : State) (r a : FpIdx) (k : Idx),
    SetsFp (.fpZero r) s r 0 ∧
    SetsFp (.fpOne r) s r (BitVec.ofNat 768 (2 ^ 768 % s.cfg.pMod)) ∧
    SetsFp (.fpModulus r) s r (BitVec.ofNat 768 s.cfg.pMod) ∧
    SetsFp (.fpMov r a) s r (s.getFp a) ∧
    SetsFp (.fpFromSc r k) s r (s.getSc k) ∧
    SetsSc (.fpToSc k a) s k (s.getFp a)

/-- FP.LD of at most 96 bytes inside the buffer writes their big-endian value, valid or not; of more bytes a drawn
value; beyond the buffer it raises DmemRange. FP.ST writes the 96 big-endian bytes of the raw value, or raises
DmemRange. Which free value a draw takes, and how many, is the model's choice (log entry 3). (R124, R125.) -/
def Obligations.FpLoadStore : Prop :=
  ∀ (s : State) (r : FpIdx),
    (s.dptr.toNat + s.dlen.toNat ≤ s.cfg.dmemSize → s.dlen.toNat ≤ 96 →
      ∃ v : Fp, v.toNat = be s.loaded ∧ SetsFp (.fpLd r) s r v) ∧
    (s.dptr.toNat + s.dlen.toNat ≤ s.cfg.dmemSize → 96 < s.dlen.toNat →
      exec (.fpLd r) s = .next ((s.setFp r (s.free 0)).spend 1).counted) ∧
    (s.cfg.dmemSize < s.dptr.toNat + s.dlen.toNat →
      exec (.fpLd r) s = .next (errorEntry .dmemRange (encode (.fpLd r)) s)) ∧
    (s.dptr.toNat + 96 ≤ s.cfg.dmemSize → Stores (.fpSt r) s 96 (s.getFp r).toNat 0) ∧
    (s.cfg.dmemSize < s.dptr.toNat + 96 →
      exec (.fpSt r) s = .next (errorEntry .dmemRange (encode (.fpSt r)) s))

/-- On valid operands each writes the fully reduced raw value of its rule, which denotes the sum, difference, double,
negative or product by BETA of the residues. (R130, R131, R132, R133, R143.) -/
def Obligations.FpAdditive : Prop :=
  (∀ (s : State) (rd ra rb : FpIdx), s.cfg.Sized → (s.getFp ra).toNat < s.cfg.pMod → (s.getFp rb).toNat < s.cfg.pMod →
    let c := s.cfg
    let p := c.pMod
    let x := (s.getFp ra).toNat
    let y := (s.getFp rb).toNat
    (∃ v : Fp, v.toNat = (if x + y < p then x + y else x + y - p) ∧
      c.dec v = (c.dec (s.getFp ra) + c.dec (s.getFp rb)) % p ∧ SetsFp (.fpAdd rd ra rb) s rd v) ∧
    (∃ v : Fp, v.toNat = (if y ≤ x then x - y else x + p - y) ∧
      (c.dec v + c.dec (s.getFp rb)) % p = c.dec (s.getFp ra) ∧ SetsFp (.fpSub rd ra rb) s rd v)) ∧
  (∀ (s : State) (rd ra : FpIdx), s.cfg.Sized → (s.getFp ra).toNat < s.cfg.pMod →
    let c := s.cfg
    let p := c.pMod
    let x := (s.getFp ra).toNat
    (∃ v : Fp, v.toNat = 2 * x % p ∧ c.dec v = 2 * c.dec (s.getFp ra) % p ∧ SetsFp (.fpDouble rd ra) s rd v) ∧
    (∃ v : Fp, v.toNat = (if x = 0 then 0 else p - x) ∧ (c.dec v + c.dec (s.getFp ra)) % p = 0 ∧
      SetsFp (.fpNeg rd ra) s rd v) ∧
    (∃ v : Fp, v.toNat = (p - 4) * x % p ∧ c.dec v = (p - 4) * c.dec (s.getFp ra) % p ∧
      SetsFp (.fpMulNr rd ra) s rd v))

/-- On lazy-ok operands FP.MUL writes the one valid z with z·R ≡ x·y modulo p, which denotes the product of the
residues; FP.SQUARE is FP.MUL of the operand with itself; FP.TOMONT writes x·R mod p and FP.FROMMONT the one valid
z with z·R ≡ x. (R128, R129, R137, R138.) -/
def Obligations.FpMontgomery : Prop :=
  (∀ (s : State) (rd ra rb : FpIdx), s.cfg.Sized → (s.getFp ra).toNat < 2 * s.cfg.pMod →
    (s.getFp rb).toNat < 2 * s.cfg.pMod →
    ∃ v : Fp, v.toNat < s.cfg.pMod ∧
      v.toNat * 2 ^ 768 % s.cfg.pMod = (s.getFp ra).toNat * (s.getFp rb).toNat % s.cfg.pMod ∧
      s.cfg.dec v = s.cfg.dec (s.getFp ra) * s.cfg.dec (s.getFp rb) % s.cfg.pMod ∧
      SetsFp (.fpMul rd ra rb) s rd v) ∧
  (∀ (s : State) (rd ra : FpIdx), s.cfg.Sized → (s.getFp ra).toNat < 2 * s.cfg.pMod →
    exec (.fpSquare rd ra) s = exec (.fpMul rd ra ra) s ∧
    (∃ v : Fp, v.toNat = (s.getFp ra).toNat * 2 ^ 768 % s.cfg.pMod ∧ SetsFp (.fpToMont rd ra) s rd v) ∧
    (∃ v : Fp, v.toNat < s.cfg.pMod ∧ v.toNat * 2 ^ 768 % s.cfg.pMod = (s.getFp ra).toNat % s.cfg.pMod ∧
      v.toNat = s.cfg.dec (s.getFp ra) ∧ SetsFp (.fpFromMont rd ra) s rd v))

/-- For operands below 2p the limb-by-limb algorithm with the constant INP gives the Montgomery product. (R112.) -/
def Obligations.WordSerialMontgomery : Prop :=
  ∀ (c : Config) (x y : Nat), c.Sized → x < 2 * c.pMod → y < 2 * c.pMod → c.montSerial x y = c.mont x y

/-- For a prime modulus and a valid operand FP.INV writes 0 for 0, and else the valid value whose Montgomery product
with the operand is ONE. (R139.) -/
def Obligations.FpInverse : Prop :=
  ∀ (s : State) (rd ra : FpIdx), s.cfg.FieldLegal → (s.getFp ra).toNat < s.cfg.pMod →
    ∃ v : Fp, v.toNat < s.cfg.pMod ∧ (s.getFp ra = 0 → v = 0) ∧
      (s.getFp ra ≠ 0 → s.cfg.mont (s.getFp ra).toNat v.toNat = 2 ^ 768 % s.cfg.pMod ∧
        s.cfg.dec (s.getFp ra) * s.cfg.dec v % s.cfg.pMod = 1) ∧
      SetsFp (.fpInv rd ra) s rd v

/-- On a valid operand FP.EXP writes the valid value that denotes the power of the residue by the whole 768-bit
scalar; the power 0 is one. (R140.) -/
def Obligations.FpPower : Prop :=
  ∀ (s : State) (rd ra : FpIdx) (rb : Idx), s.cfg.Sized → (s.getFp ra).toNat < s.cfg.pMod →
    ∃ v : Fp, s.cfg.Denotes v (s.cfg.dec (s.getFp ra) ^ (s.getSc rb).toNat % s.cfg.pMod) ∧
      SetsFp (.fpExp rd ra rb) s rd v

/-- For a legal prime modulus and a valid operand: if the residue has a square root, FP.SQRT sets FLAG.B and writes
the root a^((p+1)/4), and FP.ISQNR clears FLAG.B; if it has none, FP.SQRT clears FLAG.B and writes a drawn value,
and FP.ISQNR sets FLAG.B. Which free value the draw takes, and how many, is the model's choice (log entry 3).
(R141, R142.) -/
def Obligations.FpSquareRoot : Prop :=
  ∀ (s : State) (rd ra : FpIdx), s.cfg.FieldLegal → (s.getFp ra).toNat < s.cfg.pMod →
    ((∃ r, r * r % s.cfg.pMod = s.cfg.dec (s.getFp ra)) →
      (∃ v : Fp, s.cfg.Denotes v (s.cfg.dec (s.getFp ra) ^ ((s.cfg.pMod + 1) / 4) % s.cfg.pMod) ∧
        s.cfg.dec v * s.cfg.dec v % s.cfg.pMod = s.cfg.dec (s.getFp ra) ∧
        exec (.fpSqrt rd ra) s = .next ((s.setFp rd v).setB true).counted) ∧
      SetsB (.fpIsQnr ra) s false) ∧
    ((∀ r, r * r % s.cfg.pMod ≠ s.cfg.dec (s.getFp ra)) →
      exec (.fpSqrt rd ra) s = .next (((s.setFp rd (s.free 0)).spend 1).setB false).counted ∧
      SetsB (.fpIsQnr ra) s true)

/-- On valid operands each writes some value below 2p that is congruent to the exact sum, double or difference, and
nothing else. That the set is the formula of R134 to R136, one member wider than its prose, is deduced (log entry
8); that one free value is taken is the model's choice (log entry 3). (R134, R135, R136.) -/
def Obligations.FpLazy : Prop :=
  (∀ (s : State) (rd ra rb : FpIdx), s.cfg.Sized → (s.getFp ra).toNat < s.cfg.pMod → (s.getFp rb).toNat < s.cfg.pMod →
    (∃ v : Fp, v.toNat < 2 * s.cfg.pMod ∧
      v.toNat % s.cfg.pMod = ((s.getFp ra).toNat + (s.getFp rb).toNat) % s.cfg.pMod ∧
      exec (.fpLAdd rd ra rb) s = .next ((s.setFp rd v).spend 1).counted) ∧
    (∃ v : Fp, v.toNat < 2 * s.cfg.pMod ∧
      (v.toNat + (s.getFp rb).toNat) % s.cfg.pMod = (s.getFp ra).toNat ∧
      exec (.fpLSub rd ra rb) s = .next ((s.setFp rd v).spend 1).counted)) ∧
  (∀ (s : State) (rd ra : FpIdx), s.cfg.Sized → (s.getFp ra).toNat < s.cfg.pMod →
    ∃ v : Fp, v.toNat < 2 * s.cfg.pMod ∧ v.toNat % s.cfg.pMod = 2 * (s.getFp ra).toNat % s.cfg.pMod ∧
      exec (.fpLDouble rd ra) s = .next ((s.setFp rd v).spend 1).counted)

/-- For Fp, Fp3 and Fp6, on valid summands and a lazy-ok factor in another register: the lazy addition followed by the
multiplication leaves in the destination what the full addition followed by the multiplication leaves. (R134,
R176, R206, R355.) -/
def Obligations.LazyEquivalence : Prop :=
  (∀ (s t u t' u' : State) (rd ra rb rc : FpIdx), s.cfg.Sized → rc ≠ rd →
    valid s.cfg (s.getFp ra) → valid s.cfg (s.getFp rb) → lazyOk s.cfg (s.getFp rc) →
    exec (.fpLAdd rd ra rb) s = .next t → exec (.fpAdd rd ra rb) s = .next u →
    exec (.fpMul rd rd rc) t = .next t' → exec (.fpMul rd rd rc) u = .next u' → t'.getFp rd = u'.getFp rd) ∧
  (∀ (s t u t' u' : State) (rd ra rb rc : Idx), s.cfg.Sized → rc ≠ rd →
    (s.getFp3 ra).all (valid s.cfg) → (s.getFp3 rb).all (valid s.cfg) → (s.getFp3 rc).all (lazyOk s.cfg) →
    exec (.fp3LAdd rd ra rb) s = .next t → exec (.fp3Add rd ra rb) s = .next u →
    exec (.fp3Mul rd rd rc) t = .next t' → exec (.fp3Mul rd rd rc) u = .next u' → t'.getFp3 rd = u'.getFp3 rd) ∧
  (∀ (s t u t' u' : State) (rd ra rb rc : Idx), s.cfg.Sized → rc ≠ rd →
    (s.getFp6 ra).all (valid s.cfg) → (s.getFp6 rb).all (valid s.cfg) → (s.getFp6 rc).all (lazyOk s.cfg) →
    exec (.fp6LAdd rd ra rb) s = .next t → exec (.fp6Add rd ra rb) s = .next u →
    exec (.fp6Mul rd rd rc) t = .next t' → exec (.fp6Mul rd rd rc) u = .next u' → t'.getFp6 rd = u'.getFp6 rd)

/-- FP.CMP writes the three-way result into FLAG.CMP, each predicate its answer into FLAG.B, for any raw values and
writing nothing else; a write of one field of FLAG keeps the other. (R144, R145, R146, R147, R148, R149, R150,
R116.) -/
def Obligations.FpPredicates : Prop :=
  (∀ (s : State) (b : Bool) (cmp : BitVec 2), flagB (s.setB b).flag = b ∧ flagCmp (s.setB b).flag = flagCmp s.flag ∧
    flagCmp (s.setCmp cmp).flag = cmp ∧ flagB (s.setCmp cmp).flag = flagB s.flag) ∧
  (∀ (s : State) (ra rb : FpIdx),
    let x := (s.getFp ra).toNat
    let y := (s.getFp rb).toNat
    exec (.fpCmp ra rb) s = .next (s.setCmp (if x = y then 0b00 else if y < x then 0b01 else 0b11)).counted ∧
    SetsB (.fpEq ra rb) s (decide (x = y)) ∧
    SetsB (.fpIsZero ra) s (decide (x = 0)) ∧
    SetsB (.fpIsOne ra) s (decide (s.getFp ra = BitVec.ofNat 768 (2 ^ 768 % s.cfg.pMod))) ∧
    SetsB (.fpIsOdd ra) s (decide (x % 2 = 1)) ∧
    SetsB (.fpIsEven ra) s (decide (x % 2 = 0)) ∧
    SetsB (.fpIsValid ra) s (decide (x < s.cfg.pMod)))

/-- Each writes its destination with the raw value of its rule, for any values, and nothing else; GET for every legal
selector. (R165, R166, R167, R170, R171, R195, R196, R197, R200, R201.) -/
def Obligations.ExtensionMoves : Prop :=
  ∀ (s : State) (rd ra rb : Idx) (f x y z : FpIdx),
    let one : Fp := BitVec.ofNat 768 (2 ^ 768 % s.cfg.pMod)
    SetsFp3 (.fp3Zero rd) s rd ⟨0, 0, 0⟩ ∧
    SetsFp3 (.fp3One rd) s rd ⟨one, 0, 0⟩ ∧
    SetsFp3 (.fp3Mov rd ra) s rd (s.getFp3 ra) ∧
    SetsFp3 (.fp3Set rd x y z) s rd ⟨s.getFp x, s.getFp y, s.getFp z⟩ ∧
    SetsFp (.fp3Get f ra 0) s f (s.getFp3 ra).c0 ∧
    SetsFp (.fp3Get f ra 1) s f (s.getFp3 ra).c1 ∧
    SetsFp (.fp3Get f ra 2) s f (s.getFp3 ra).c2 ∧
    SetsFp6 (.fp6Zero rd) s rd ⟨⟨0, 0, 0⟩, ⟨0, 0, 0⟩⟩ ∧
    SetsFp6 (.fp6One rd) s rd ⟨⟨one, 0, 0⟩, ⟨0, 0, 0⟩⟩ ∧
    SetsFp6 (.fp6Mov rd ra) s rd (s.getFp6 ra) ∧
    SetsFp6 (.fp6Set rd ra rb) s rd ⟨s.getFp3 ra, s.getFp3 rb⟩ ∧
    SetsFp3 (.fp6Get rd ra 0) s rd (s.getFp6 ra).a0 ∧
    SetsFp3 (.fp6Get rd ra 1) s rd (s.getFp6 ra).a1 ∧
    (∀ imm8 : BitVec 8, 2 < imm8.toNat → ¬(Instr.fp3Get f ra imm8).WellFormed) ∧
    (∀ imm8 : BitVec 8, 1 < imm8.toNat → ¬(Instr.fp6Get rd ra imm8).WellFormed)

/-- A load of exactly 288 or 576 bytes inside the buffer writes the components in order, each 96 bytes big-endian,
unchecked; another length is a FormatError, a range beyond the buffer a DmemRange error. A store writes the
components in the same order, or raises DmemRange. (R168, R169, R198, R199.) -/
def Obligations.ExtensionLoadStore : Prop :=
  (∀ (s : State) (r : Idx),
    (s.dptr.toNat + s.dlen.toNat ≤ s.cfg.dmemSize → s.dlen.toNat = 288 →
      ∃ v : CubicElt Fp, joined [v.c0, v.c1, v.c2] = be s.loaded ∧ SetsFp3 (.fp3Ld r) s r v) ∧
    (s.dptr.toNat + s.dlen.toNat ≤ s.cfg.dmemSize → s.dlen.toNat ≠ 288 →
      exec (.fp3Ld r) s = .next (errorEntry .formatError (encode (.fp3Ld r)) s)) ∧
    (s.cfg.dmemSize < s.dptr.toNat + s.dlen.toNat →
      exec (.fp3Ld r) s = .next (errorEntry .dmemRange (encode (.fp3Ld r)) s)) ∧
    (s.dptr.toNat + 288 ≤ s.cfg.dmemSize →
      Stores (.fp3St r) s 288 (joined [(s.getFp3 r).c0, (s.getFp3 r).c1, (s.getFp3 r).c2]) 0) ∧
    (s.cfg.dmemSize < s.dptr.toNat + 288 →
      exec (.fp3St r) s = .next (errorEntry .dmemRange (encode (.fp3St r)) s))) ∧
  (∀ (s : State) (r : Idx),
    (s.dptr.toNat + s.dlen.toNat ≤ s.cfg.dmemSize → s.dlen.toNat = 576 →
      ∃ v : SexticElt Fp, joined (components v) = be s.loaded ∧ SetsFp6 (.fp6Ld r) s r v) ∧
    (s.dptr.toNat + s.dlen.toNat ≤ s.cfg.dmemSize → s.dlen.toNat ≠ 576 →
      exec (.fp6Ld r) s = .next (errorEntry .formatError (encode (.fp6Ld r)) s)) ∧
    (s.cfg.dmemSize < s.dptr.toNat + s.dlen.toNat →
      exec (.fp6Ld r) s = .next (errorEntry .dmemRange (encode (.fp6Ld r)) s)) ∧
    (s.dptr.toNat + 576 ≤ s.cfg.dmemSize → Stores (.fp6St r) s 576 (joined (components (s.getFp6 r))) 0) ∧
    (s.cfg.dmemSize < s.dptr.toNat + 576 →
      exec (.fp6St r) s = .next (errorEntry .dmemRange (encode (.fp6St r)) s)))

/-- On valid components each writes valid components that denote the component-wise sum, difference, double or
negative; FP6.CONJ keeps the first half and negates the second. (R172, R173, R174, R175, R202, R203, R204, R205,
R212.) -/
def Obligations.ExtensionAdditive : Prop :=
  (∀ (s : State) (rd ra rb : Idx), s.cfg.Sized → (s.getFp3 ra).all (valid s.cfg) → (s.getFp3 rb).all (valid s.cfg) →
    let c := s.cfg
    let a := c.dec3 (s.getFp3 ra)
    let b := c.dec3 (s.getFp3 rb)
    (∃ v, c.Denotes3 v (a.zipWith (fun x y => (x + y) % c.pMod) b) ∧ SetsFp3 (.fp3Add rd ra rb) s rd v) ∧
    (∃ v, c.Denotes3 v (a.zipWith (fun x y => (x + c.pMod - y) % c.pMod) b) ∧ SetsFp3 (.fp3Sub rd ra rb) s rd v)) ∧
  (∀ (s : State) (rd ra : Idx), s.cfg.Sized → (s.getFp3 ra).all (valid s.cfg) →
    let c := s.cfg
    let a := c.dec3 (s.getFp3 ra)
    (∃ v, c.Denotes3 v (a.map (fun x => 2 * x % c.pMod)) ∧ SetsFp3 (.fp3Double rd ra) s rd v) ∧
    (∃ v, c.Denotes3 v (a.map (fun x => (c.pMod - x) % c.pMod)) ∧ SetsFp3 (.fp3Neg rd ra) s rd v)) ∧
  (∀ (s : State) (rd ra rb : Idx), s.cfg.Sized → (s.getFp6 ra).all (valid s.cfg) → (s.getFp6 rb).all (valid s.cfg) →
    let c := s.cfg
    let a := c.dec6 (s.getFp6 ra)
    let b := c.dec6 (s.getFp6 rb)
    (∃ v, c.Denotes6 v (a.zipWith (fun x y => (x + y) % c.pMod) b) ∧ SetsFp6 (.fp6Add rd ra rb) s rd v) ∧
    (∃ v, c.Denotes6 v (a.zipWith (fun x y => (x + c.pMod - y) % c.pMod) b) ∧ SetsFp6 (.fp6Sub rd ra rb) s rd v)) ∧
  (∀ (s : State) (rd ra : Idx), s.cfg.Sized → (s.getFp6 ra).all (valid s.cfg) →
    let c := s.cfg
    let a := c.dec6 (s.getFp6 ra)
    (∃ v, c.Denotes6 v (a.map (fun x => 2 * x % c.pMod)) ∧ SetsFp6 (.fp6Double rd ra) s rd v) ∧
    (∃ v, c.Denotes6 v (a.map (fun x => (c.pMod - x) % c.pMod)) ∧ SetsFp6 (.fp6Neg rd ra) s rd v) ∧
    (∃ v, c.Denotes6 v ⟨a.a0, a.a1.map (fun x => (c.pMod - x) % c.pMod)⟩ ∧ SetsFp6 (.fp6Conj rd ra) s rd v))

/-- On valid components each writes in every component some value below 2p congruent to the raw sum, and nothing else.
The set follows the formula of the rule, as for FP.LADD, which is deduced (log entry 8); one free value a
component is the model's choice (log entry 3). (R176, R206.) -/
def Obligations.ExtensionLazy : Prop :=
  let sum (c : Config) (v x y : Fp) : Prop :=
    v.toNat < 2 * c.pMod ∧ v.toNat % c.pMod = (x.toNat + y.toNat) % c.pMod
  let sum3 (c : Config) (v x y : CubicElt Fp) : Prop := sum c v.c0 x.c0 y.c0 ∧ sum c v.c1 x.c1 y.c1 ∧ sum c v.c2 x.c2 y.c2
  (∀ (s : State) (rd ra rb : Idx), s.cfg.Sized → (s.getFp3 ra).all (valid s.cfg) → (s.getFp3 rb).all (valid s.cfg) →
    ∃ v, sum3 s.cfg v (s.getFp3 ra) (s.getFp3 rb) ∧
      exec (.fp3LAdd rd ra rb) s = .next ((s.setFp3 rd v).spend 3).counted) ∧
  (∀ (s : State) (rd ra rb : Idx), s.cfg.Sized → (s.getFp6 ra).all (valid s.cfg) → (s.getFp6 rb).all (valid s.cfg) →
    ∃ v, sum3 s.cfg v.a0 (s.getFp6 ra).a0 (s.getFp6 rb).a0 ∧ sum3 s.cfg v.a1 (s.getFp6 ra).a1 (s.getFp6 rb).a1 ∧
      exec (.fp6LAdd rd ra rb) s = .next ((s.setFp6 rd v).spend 6).counted)

/-- On lazy-ok components FP3.MUL writes valid components that denote the product modulo v³ = BETA as R177 expands it;
FP3.SQUARE is FP3.MUL of the operand with itself; FP3.MUL0 scales by component 0 of its second operand, whatever
the other two hold. (R177, R178, R182.) -/
def Obligations.Fp3Products : Prop :=
  (∀ (s : State) (rd ra rb : Idx), s.cfg.Sized → (s.getFp3 ra).all (lazyOk s.cfg) → (s.getFp3 rb).all (lazyOk s.cfg) →
    let c := s.cfg
    let p := c.pMod
    let a := c.dec3 (s.getFp3 ra)
    let b := c.dec3 (s.getFp3 rb)
    ∃ v, c.Denotes3 v
        ⟨(a.c0 * b.c0 + (p - 4) * (a.c1 * b.c2 + a.c2 * b.c1)) % p,
         (a.c0 * b.c1 + a.c1 * b.c0 + (p - 4) * (a.c2 * b.c2)) % p,
         (a.c0 * b.c2 + a.c1 * b.c1 + a.c2 * b.c0) % p⟩ ∧
      SetsFp3 (.fp3Mul rd ra rb) s rd v) ∧
  (∀ (s : State) (rd ra : Idx), s.cfg.Sized → (s.getFp3 ra).all (lazyOk s.cfg) →
    exec (.fp3Square rd ra) s = exec (.fp3Mul rd ra ra) s) ∧
  (∀ (s : State) (rd ra rb : Idx), s.cfg.Sized → (s.getFp3 ra).all (lazyOk s.cfg) → lazyOk s.cfg (s.getFp3 rb).c0 →
    ∃ v, s.cfg.Denotes3 v
        ((s.cfg.dec3 (s.getFp3 ra)).map (fun x => x * s.cfg.dec (s.getFp3 rb).c0 % s.cfg.pMod)) ∧
      SetsFp3 (.fp3Mul0 rd ra rb) s rd v)

/-- On lazy-ok operands FP6.MUL writes valid components that denote the product modulo w² = v, written out over the
six components; FP6.SQUARE is FP6.MUL of the operand with itself; the sparse products write the components R214
and R215 expand, multiplying the destination in place. (R207, R208, R214, R215.) -/
def Obligations.Fp6Products : Prop :=
  (∀ (s : State) (rd ra rb : Idx), s.cfg.Sized → (s.getFp6 ra).all (lazyOk s.cfg) → (s.getFp6 rb).all (lazyOk s.cfg) →
    let p := s.cfg.pMod
    let a := s.cfg.dec6 (s.getFp6 ra)
    let b := s.cfg.dec6 (s.getFp6 rb)
    ∃ v, s.cfg.Denotes6 v
        ⟨⟨(a.a0.c0 * b.a0.c0 + (p - 4) * (a.a0.c1 * b.a0.c2 + a.a0.c2 * b.a0.c1) +
            (p - 4) * (a.a1.c0 * b.a1.c2 + a.a1.c1 * b.a1.c1 + a.a1.c2 * b.a1.c0)) % p,
          (a.a0.c0 * b.a0.c1 + a.a0.c1 * b.a0.c0 + (p - 4) * (a.a0.c2 * b.a0.c2) +
            (a.a1.c0 * b.a1.c0 + (p - 4) * (a.a1.c1 * b.a1.c2 + a.a1.c2 * b.a1.c1))) % p,
          (a.a0.c0 * b.a0.c2 + a.a0.c1 * b.a0.c1 + a.a0.c2 * b.a0.c0 +
            (a.a1.c0 * b.a1.c1 + a.a1.c1 * b.a1.c0 + (p - 4) * (a.a1.c2 * b.a1.c2))) % p⟩,
         ⟨(a.a0.c0 * b.a1.c0 + (p - 4) * (a.a0.c1 * b.a1.c2 + a.a0.c2 * b.a1.c1) +
            (a.a1.c0 * b.a0.c0 + (p - 4) * (a.a1.c1 * b.a0.c2 + a.a1.c2 * b.a0.c1))) % p,
          (a.a0.c0 * b.a1.c1 + a.a0.c1 * b.a1.c0 + (p - 4) * (a.a0.c2 * b.a1.c2) +
            (a.a1.c0 * b.a0.c1 + a.a1.c1 * b.a0.c0 + (p - 4) * (a.a1.c2 * b.a0.c2))) % p,
          (a.a0.c0 * b.a1.c2 + a.a0.c1 * b.a1.c1 + a.a0.c2 * b.a1.c0 +
            (a.a1.c0 * b.a0.c2 + a.a1.c1 * b.a0.c1 + a.a1.c2 * b.a0.c0)) % p⟩⟩ ∧
      SetsFp6 (.fp6Mul rd ra rb) s rd v) ∧
  (∀ (s : State) (rd ra : Idx), s.cfg.Sized → (s.getFp6 ra).all (lazyOk s.cfg) →
    exec (.fp6Square rd ra) s = exec (.fp6Mul rd ra ra) s) ∧
  (∀ (s : State) (rd : Idx) (ra rb rc : FpIdx), s.cfg.Sized → (s.getFp6 rd).all (lazyOk s.cfg) →
    lazyOk s.cfg (s.getFp ra) → lazyOk s.cfg (s.getFp rb) → lazyOk s.cfg (s.getFp rc) →
    let p := s.cfg.pMod
    let d := s.cfg.dec6 (s.getFp6 rd)
    let x := s.cfg.dec (s.getFp ra)
    let y := s.cfg.dec (s.getFp rb)
    let z := s.cfg.dec (s.getFp rc)
    (∃ v, s.cfg.Denotes6 v
        ⟨⟨(d.a0.c0 * x + (p - 4) * (d.a0.c2 * y + d.a1.c1 * z)) % p,
          (d.a0.c0 * y + d.a0.c1 * x + (p - 4) * (d.a1.c2 * z)) % p,
          (d.a0.c1 * y + d.a0.c2 * x + d.a1.c0 * z) % p⟩,
         ⟨(d.a1.c0 * x + (p - 4) * (d.a1.c2 * y + d.a0.c2 * z)) % p,
          (d.a1.c0 * y + d.a1.c1 * x + d.a0.c0 * z) % p,
          (d.a1.c1 * y + d.a1.c2 * x + d.a0.c1 * z) % p⟩⟩ ∧
      SetsFp6 (.fp6Mul014 rd ra rb rc) s rd v) ∧
    (∃ v, s.cfg.Denotes6 v
        ⟨⟨(d.a0.c0 * x + (p - 4) * (d.a1.c2 * y + d.a1.c1 * z)) % p,
          (d.a0.c1 * x + d.a1.c0 * y + (p - 4) * (d.a1.c2 * z)) % p,
          (d.a0.c2 * x + d.a1.c1 * y + d.a1.c0 * z) % p⟩,
         ⟨(d.a1.c0 * x + d.a0.c0 * y + (p - 4) * (d.a0.c2 * z)) % p,
          (d.a1.c1 * x + d.a0.c1 * y + d.a0.c0 * z) % p,
          (d.a1.c2 * x + d.a0.c2 * y + d.a0.c1 * z) % p⟩⟩ ∧
      SetsFp6 (.fp6Mul034 rd ra rb rc) s rd v))

/-- For a legal modulus and valid components each writes zero for zero, and else valid components whose product with
the operand is one. (R179, R210.) -/
def Obligations.ExtensionInverse : Prop :=
  (∀ (s : State) (rd ra : Idx), s.cfg.FieldLegal → (s.getFp3 ra).all (valid s.cfg) →
    ∃ v : CubicElt Fp, v.all (valid s.cfg) ∧ (s.getFp3 ra = ⟨0, 0, 0⟩ → v = ⟨0, 0, 0⟩) ∧
      (s.getFp3 ra ≠ ⟨0, 0, 0⟩ → s.cfg.mul3 (s.cfg.dec3 (s.getFp3 ra)) (s.cfg.dec3 v) = s.cfg.one3) ∧
      SetsFp3 (.fp3Inv rd ra) s rd v) ∧
  (∀ (s : State) (rd ra : Idx), s.cfg.FieldLegal → (s.getFp6 ra).all (valid s.cfg) →
    ∃ v : SexticElt Fp, v.all (valid s.cfg) ∧
      (s.getFp6 ra = ⟨⟨0, 0, 0⟩, ⟨0, 0, 0⟩⟩ → v = ⟨⟨0, 0, 0⟩, ⟨0, 0, 0⟩⟩) ∧
      (s.getFp6 ra ≠ ⟨⟨0, 0, 0⟩, ⟨0, 0, 0⟩⟩ →
        s.cfg.mul6 (s.cfg.dec6 (s.getFp6 ra)) (s.cfg.dec6 v) = s.cfg.one6) ∧
      SetsFp6 (.fp6Inv rd ra) s rd v)

/-- On valid components each EXP writes valid components that denote the product of as many factors as the whole
scalar says, one for the scalar 0. On an element whose power p²−p+1 is one, FP6.CYCSQ writes the square. (R180,
R211, R209.) -/
def Obligations.ExtensionPower : Prop :=
  (∀ (s : State) (rd ra rb : Idx), s.cfg.Sized → (s.getFp3 ra).all (valid s.cfg) →
    ∃ v, s.cfg.Denotes3 v (s.cfg.power3 (s.cfg.dec3 (s.getFp3 ra)) (s.getSc rb).toNat) ∧
      SetsFp3 (.fp3Exp rd ra rb) s rd v) ∧
  (∀ (s : State) (rd ra rb : Idx), s.cfg.Sized → (s.getFp6 ra).all (valid s.cfg) →
    ∃ v, s.cfg.Denotes6 v (s.cfg.power6 (s.cfg.dec6 (s.getFp6 ra)) (s.getSc rb).toNat) ∧
      SetsFp6 (.fp6Exp rd ra rb) s rd v) ∧
  (∀ (s : State) (rd ra : Idx), s.cfg.Sized → (s.getFp6 ra).all (valid s.cfg) →
    s.cfg.power6 (s.cfg.dec6 (s.getFp6 ra)) (s.cfg.pMod ^ 2 - s.cfg.pMod + 1) = s.cfg.one6 →
    ∃ v, s.cfg.Denotes6 v (s.cfg.mul6 (s.cfg.dec6 (s.getFp6 ra)) (s.cfg.dec6 (s.getFp6 ra))) ∧
      SetsFp6 (.fp6CycSq rd ra) s rd v)

/-- For a legal modulus and valid components each FROB, for every immediate k from 0 to 255, writes valid components
that denote the operand multiplied by itself p^k times: the coefficient tables agree with naive exponentiation.
(R181, R213.) -/
def Obligations.FrobeniusIsPower : Prop :=
  (∀ (s : State) (rd ra : Idx) (imm8 : BitVec 8), s.cfg.FieldLegal → (s.getFp3 ra).all (valid s.cfg) →
    ∃ v, s.cfg.Denotes3 v (s.cfg.power3 (s.cfg.dec3 (s.getFp3 ra)) (s.cfg.pMod ^ imm8.toNat)) ∧
      SetsFp3 (.fp3Frob rd ra imm8) s rd v) ∧
  (∀ (s : State) (rd ra : Idx) (imm8 : BitVec 8), s.cfg.FieldLegal → (s.getFp6 ra).all (valid s.cfg) →
    ∃ v, s.cfg.Denotes6 v (s.cfg.power6 (s.cfg.dec6 (s.getFp6 ra)) (s.cfg.pMod ^ imm8.toNat)) ∧
      SetsFp6 (.fp6Frob rd ra imm8) s rd v)

/-- For a legal modulus and valid components the two commands answer the same state, the constant zeta cubed being
minus one. (R212, R193.) -/
def Obligations.ConjugateIsFrobeniusThree : Prop :=
  ∀ (s : State) (rd ra : Idx), s.cfg.FieldLegal → (s.getFp6 ra).all (valid s.cfg) →
    exec (.fp6Conj rd ra) s = exec (.fp6Frob rd ra 3) s ∧ s.cfg.zeta ^ 3 % s.cfg.pMod = s.cfg.pMod - 1

/-- Equality, zero and one compare all raw components, for any values; FP6.ISVALID, on valid components, tells whether
the power by r is one. Each writes FLAG.B and nothing else. (R183, R184, R185, R216, R217, R218, R219.) -/
def Obligations.ExtensionPredicates : Prop :=
  (∀ (s : State) (ra rb : Idx),
    let one : Fp := BitVec.ofNat 768 (2 ^ 768 % s.cfg.pMod)
    SetsB (.fp3Eq ra rb) s (decide (s.getFp3 ra = s.getFp3 rb)) ∧
    SetsB (.fp3IsZero ra) s (decide (s.getFp3 ra = ⟨0, 0, 0⟩)) ∧
    SetsB (.fp3IsOne ra) s (decide (s.getFp3 ra = ⟨one, 0, 0⟩)) ∧
    SetsB (.fp6Eq ra rb) s (decide (s.getFp6 ra = s.getFp6 rb)) ∧
    SetsB (.fp6IsZero ra) s (decide (s.getFp6 ra = ⟨⟨0, 0, 0⟩, ⟨0, 0, 0⟩⟩)) ∧
    SetsB (.fp6IsOne ra) s (decide (s.getFp6 ra = ⟨⟨one, 0, 0⟩, ⟨0, 0, 0⟩⟩))) ∧
  (∀ (s : State) (ra : Idx), s.cfg.Sized → (s.getFp6 ra).all (valid s.cfg) →
    SetsB (.fp6IsValid ra) s
      (decide (s.cfg.power6 (s.cfg.dec6 (s.getFp6 ra)) s.cfg.rOrd = s.cfg.one6)))

/-- Each writes its destination with the exact raw value of its rule and nothing else; GET for every legal selector.
(R230, R231, R232, R235, R236, R250, R251, R252, R255, R256.) -/
def Obligations.PointMoves : Prop :=
  ∀ (s : State) (rd ra : Idx) (f x y z : FpIdx),
    let c := s.cfg
    let one : Fp := BitVec.ofNat 768 (2 ^ 768 % c.pMod)
    let enc (a : Nat) : Fp := BitVec.ofNat 768 (a * 2 ^ 768 % c.pMod)
    SetsPoint (.g1Zero rd) s .g1 rd ⟨0, one, 0⟩ ∧ SetsPoint (.g2Zero rd) s .g2 rd ⟨0, one, 0⟩ ∧
    SetsPoint (.g1Gen rd) s .g1 rd ⟨enc c.genG1.x, enc c.genG1.y, one⟩ ∧
    SetsPoint (.g2Gen rd) s .g2 rd ⟨enc c.genG2.x, enc c.genG2.y, one⟩ ∧
    SetsPoint (.g1Mov rd ra) s .g1 rd (s.getPoint .g1 ra) ∧ SetsPoint (.g2Mov rd ra) s .g2 rd (s.getPoint .g2 ra) ∧
    SetsPoint (.g1Set rd x y z) s .g1 rd ⟨s.getFp x, s.getFp y, s.getFp z⟩ ∧
    SetsPoint (.g2Set rd x y z) s .g2 rd ⟨s.getFp x, s.getFp y, s.getFp z⟩ ∧
    SetsFp (.g1Get f ra 0) s f (s.getPoint .g1 ra).x ∧ SetsFp (.g2Get f ra 0) s f (s.getPoint .g2 ra).x ∧
    SetsFp (.g1Get f ra 1) s f (s.getPoint .g1 ra).y ∧ SetsFp (.g2Get f ra 1) s f (s.getPoint .g2 ra).y ∧
    SetsFp (.g1Get f ra 2) s f (s.getPoint .g1 ra).z ∧ SetsFp (.g2Get f ra 2) s f (s.getPoint .g2 ra).z ∧
    (∀ imm8 : BitVec 8, 2 < imm8.toNat → ¬(Instr.g1Get f ra imm8).WellFormed ∧ ¬(Instr.g2Get f ra imm8).WellFormed)

/-- 192 bytes inside the buffer: all zero gives the canonical infinity; coordinates below p that meet the curve
equation give (x, y, ONE); anything else is a NotOnCurveError. Another length is a FormatError, a range beyond the
buffer a DmemRange error. (R233, R253, R65.) -/
def Obligations.PointLoads : Prop :=
  ∀ (s : State) (r : Idx), ∀ gi ∈ [(CurveGroup.g1, Instr.g1Ld r), (CurveGroup.g2, Instr.g2Ld r)],
    let c := s.cfg
    let b := curveB c gi.1 * 2 ^ 768 % c.pMod
    let x := be (s.loaded.take 96)
    let y := be (s.loaded.drop 96)
    (c.Sized → s.dptr.toNat + s.dlen.toNat ≤ c.dmemSize → s.dlen.toNat = 192 →
      ((∀ byte ∈ s.loaded, byte = 0) → SetsPoint gi.2 s gi.1 r ⟨0, BitVec.ofNat 768 (2 ^ 768 % c.pMod), 0⟩) ∧
      ((∃ byte ∈ s.loaded, byte ≠ 0) → x < c.pMod → y < c.pMod →
        c.mont y y = (c.mont (c.mont x x) x + b) % c.pMod →
        SetsPoint gi.2 s gi.1 r ⟨BitVec.ofNat 768 x, BitVec.ofNat 768 y, BitVec.ofNat 768 (2 ^ 768 % c.pMod)⟩) ∧
      ((∃ byte ∈ s.loaded, byte ≠ 0) →
        c.pMod ≤ x ∨ c.pMod ≤ y ∨ c.mont y y ≠ (c.mont (c.mont x x) x + b) % c.pMod →
        exec gi.2 s = .next (errorEntry .notOnCurveError (encode gi.2) s))) ∧
    (s.dptr.toNat + s.dlen.toNat ≤ c.dmemSize → s.dlen.toNat ≠ 192 →
      exec gi.2 s = .next (errorEntry .formatError (encode gi.2) s)) ∧
    (c.dmemSize < s.dptr.toNat + s.dlen.toNat → exec gi.2 s = .next (errorEntry .dmemRange (encode gi.2) s))

/-- For a register in the domain and 192 bytes inside the buffer: 192 zero bytes for infinity, else the raw values of
the affine coordinates, x then y; the register is kept. Beyond the buffer it is a DmemRange error. (R234, R254.) -/
def Obligations.PointStores : Prop :=
  ∀ (s : State) (r : Idx), ∀ gi ∈ [(CurveGroup.g1, Instr.g1St r), (CurveGroup.g2, Instr.g2St r)],
    let c := s.cfg
    (c.FieldLegal → s.pointOk gi.1 r → s.dptr.toNat + 192 ≤ c.dmemSize →
      ((s.getPoint gi.1 r).z = 0 → Stores gi.2 s 192 0 0) ∧
      ((s.getPoint gi.1 r).z ≠ 0 → ∃ x y : Fp, x.toNat < c.pMod ∧ y.toNat < c.pMod ∧
        c.dec x * (s.residues gi.1 r).z ^ 2 % c.pMod = (s.residues gi.1 r).x ∧
        c.dec y * (s.residues gi.1 r).z ^ 3 % c.pMod = (s.residues gi.1 r).y ∧
        Stores gi.2 s 192 (joined [x, y]) 0)) ∧
    (c.dmemSize < s.dptr.toNat + 192 → exec gi.2 s = .next (errorEntry .dmemRange (encode gi.2) s))

/-- For a legal modulus and registers in the domain each writes some triple of valid components that denotes the point
the chord-and-tangent law gives for the denoted affine points, every special case included: the Jacobian formulas
refine the affine law. Three free values a result are the model's choice (log entries 3 and 9). (R222, R227, R237,
R238, R240, R257, R258, R260.) -/
def Obligations.PointGroupLaw : Prop :=
  (∀ (s : State) (rd ra rb : Idx) (g : CurveGroup), s.cfg.FieldLegal → s.pointOk g ra → s.pointOk g rb →
    (∀ i, (g, i) ∈ [(.g1, .g1Add rd ra rb), (.g2, .g2Add rd ra rb)] → ∃ v : Point Fp, v.all (valid s.cfg) ∧
      s.cfg.denote (v.map s.cfg.dec) =
        s.cfg.groupAdd (s.cfg.denote (s.residues g ra)) (s.cfg.denote (s.residues g rb)) ∧
      DrawsPoint i s g rd v) ∧
    (∀ i, (g, i) ∈ [(.g1, .g1Sub rd ra rb), (.g2, .g2Sub rd ra rb)] → ∃ v : Point Fp, v.all (valid s.cfg) ∧
      s.cfg.denote (v.map s.cfg.dec) =
        s.cfg.groupAdd (s.cfg.denote (s.residues g ra))
          ((s.cfg.denote (s.residues g rb)).map (fun a => ⟨a.x, (s.cfg.pMod - a.y) % s.cfg.pMod⟩)) ∧
      DrawsPoint i s g rd v)) ∧
  (∀ (s : State) (rd ra : Idx) (g : CurveGroup), s.cfg.FieldLegal → s.pointOk g ra →
    ∀ i, (g, i) ∈ [(.g1, .g1Double rd ra), (.g2, .g2Double rd ra)] → ∃ v : Point Fp, v.all (valid s.cfg) ∧
      s.cfg.denote (v.map s.cfg.dec) =
        s.cfg.groupAdd (s.cfg.denote (s.residues g ra)) (s.cfg.denote (s.residues g ra)) ∧
      DrawsPoint i s g rd v)

/-- On valid components NEG copies x and z and writes the raw negative of y. For a legal modulus and a register in the
domain AFFINE writes the canonical infinity for z = 0, and else the valid x and y of the denoted affine point with
z = ONE. (R239, R241, R259, R261, R226.) -/
def Obligations.PointExact : Prop :=
  (∀ (s : State) (rd ra : Idx), ∀ gi ∈ [(CurveGroup.g1, Instr.g1Neg rd ra), (CurveGroup.g2, Instr.g2Neg rd ra)],
    s.cfg.Sized → (s.getPoint gi.1 ra).all (valid s.cfg) →
    ∃ y : Fp, y.toNat = (s.cfg.pMod - (s.getPoint gi.1 ra).y.toNat) % s.cfg.pMod ∧
      SetsPoint gi.2 s gi.1 rd ⟨(s.getPoint gi.1 ra).x, y, (s.getPoint gi.1 ra).z⟩) ∧
  (∀ (s : State) (rd ra : Idx), ∀ gi ∈ [(CurveGroup.g1, Instr.g1Affine rd ra), (CurveGroup.g2, Instr.g2Affine rd ra)],
    s.cfg.FieldLegal → s.pointOk gi.1 ra →
    let one : Fp := BitVec.ofNat 768 (2 ^ 768 % s.cfg.pMod)
    ((s.getPoint gi.1 ra).z = 0 → SetsPoint gi.2 s gi.1 rd ⟨0, one, 0⟩) ∧
    ((s.getPoint gi.1 ra).z ≠ 0 → ∃ x y : Fp, x.toNat < s.cfg.pMod ∧ y.toNat < s.cfg.pMod ∧
      s.cfg.dec x * (s.residues gi.1 ra).z ^ 2 % s.cfg.pMod = (s.residues gi.1 ra).x ∧
      s.cfg.dec y * (s.residues gi.1 ra).z ^ 3 % s.cfg.pMod = (s.residues gi.1 ra).y ∧
      SetsPoint gi.2 s gi.1 rd ⟨x, y, one⟩))

/-- ISAFFINE and ISINF test the raw z for any values; ISONCURVE, on valid components, the curve equation, true for
infinity; EQ, for a legal modulus and registers in the domain, whether the two denote the same affine point or
both infinity. Each writes FLAG.B and nothing else. (R242, R243, R244, R245, R262, R263, R264, R265.) -/
def Obligations.PointPredicates : Prop :=
  (∀ (s : State) (ra : Idx) (g : CurveGroup),
    (∀ i, (g, i) ∈ [(.g1, .g1IsAffine ra), (.g2, .g2IsAffine ra)] →
      SetsB i s (decide ((s.getPoint g ra).z = BitVec.ofNat 768 (2 ^ 768 % s.cfg.pMod)))) ∧
    (∀ i, (g, i) ∈ [(.g1, .g1IsInf ra), (.g2, .g2IsInf ra)] → SetsB i s (decide ((s.getPoint g ra).z = 0)))) ∧
  (∀ (s : State) (ra : Idx) (g : CurveGroup), s.cfg.Sized → (s.getPoint g ra).all (valid s.cfg) →
    let t := s.residues g ra
    ∀ i, (g, i) ∈ [(.g1, .g1IsOnCurve ra), (.g2, .g2IsOnCurve ra)] →
      SetsB i s (decide (t.z = 0 ∨
        t.y ^ 2 % s.cfg.pMod = (t.x ^ 3 + curveB s.cfg g * t.z ^ 6) % s.cfg.pMod))) ∧
  (∀ (s : State) (ra rb : Idx) (g : CurveGroup), s.cfg.FieldLegal → s.pointOk g ra → s.pointOk g rb →
    ∀ i, (g, i) ∈ [(.g1, .g1Eq ra rb), (.g2, .g2Eq ra rb)] →
      SetsB i s (decide (s.cfg.denote (s.residues g ra) = s.cfg.denote (s.residues g rb))))

/-- For a legal modulus and registers in the domain each writes some triple of valid components that denotes the
multiple by the whole scalar, by the cofactor, or the sum of the multiples over the two register ranges, the
multiple being the double-and-add scan of R271 over the affine group law; G2.INSUB tells whether the multiple by r
is infinity. Three free values a drawn result are the model's choice (log entries 3 and 9). (R271, R274, R275,
R276, R277, R278, R279, R280.) -/
def Obligations.ScalarMultiples : Prop :=
  (∀ (s : State) (rd ra rb : Idx) (g : CurveGroup), s.cfg.FieldLegal → s.pointOk g ra →
    let c := s.cfg
    (∀ i, (g, i) ∈ [(.g1, .g1MulSc rd ra rb), (.g2, .g2MulSc rd ra rb)] → ∃ v : Point Fp, v.all (valid c) ∧
      c.denote (v.map c.dec) = c.scanMultiple (s.getSc rb).toNat (c.denote (s.residues g ra)) ∧
      DrawsPoint i s g rd v) ∧
    (∀ i, (g, i) ∈ [(.g1, .g1ClrCof rd ra), (.g2, .g2ClrCof rd ra)] → ∃ v : Point Fp, v.all (valid c) ∧
      c.denote (v.map c.dec) = c.scanMultiple (cofactor c g) (c.denote (s.residues g ra)) ∧
      DrawsPoint i s g rd v) ∧
    (g = .g2 → SetsB (.g2InSub ra) s (decide (c.scanMultiple c.rOrd (c.denote (s.residues .g2 ra)) = none)))) ∧
  (∀ (s : State) (rd ra rb : Idx) (imm8 : BitVec 8) (g : CurveGroup), s.cfg.FieldLegal →
    ra.val + imm8.toNat ≤ 8 → rb.val + imm8.toNat ≤ 8 →
    (∀ k < imm8.toNat, s.pointOk g (nthAfter ra k) ∧ bitLen (s.getSc (nthAfter rb k)).toNat ≤ bitLen s.cfg.rOrd) →
    let c := s.cfg
    ∀ i, (g, i) ∈ [(.g1, .g1Msm rd ra rb imm8), (.g2, .g2Msm rd ra rb imm8)] → ∃ v : Point Fp, v.all (valid c) ∧
      c.denote (v.map c.dec) = (List.range imm8.toNat).foldl (fun acc k => c.groupAdd acc
        (c.scanMultiple (s.getSc (nthAfter rb k)).toNat (c.denote (s.residues g (nthAfter ra k))))) none ∧
      DrawsPoint i s g rd v)

/-- A pair with a raw z of 0 is dropped without error even when the list is full; a finite pair offered to a full list
raises PairListFull; else the entry appended holds the valid values of the two affine points, py negated for
PAIR.ADDINV, and nothing else changes. PAIR.RESET empties the list. (R310, R311, R312.) -/
def Obligations.PairQueue : Prop :=
  (∀ s : State, exec .pairReset s = .next { s with pairs := [], cmdcnt := s.cmdcnt + 1 }) ∧
  (∀ (s : State) (ra rb : Idx), ∀ side ∈ [(Instr.pairAdd ra rb, false), (Instr.pairAddInv ra rb, true)],
    let c := s.cfg
    let p := s.residues .g1 ra
    let q := s.residues .g2 rb
    ((s.getPoint .g1 ra).z = 0 ∨ (s.getPoint .g2 rb).z = 0 → exec side.1 s = .next s.counted) ∧
    ((s.getPoint .g1 ra).z ≠ 0 → (s.getPoint .g2 rb).z ≠ 0 → s.pairs.length = c.maxPairs →
      exec side.1 s = .next (errorEntry .pairListFull (encode side.1) s)) ∧
    (c.FieldLegal → (s.getPoint .g1 ra).z ≠ 0 → (s.getPoint .g2 rb).z ≠ 0 → s.pairs.length ≠ c.maxPairs →
      s.pointOk .g1 ra → s.pointOk .g2 rb →
      ∃ k : Pair Fp, validPair c k ∧
        c.dec k.px * p.z ^ 2 % c.pMod = p.x ∧
        (if side.2 then c.pMod - c.dec k.py else c.dec k.py) * p.z ^ 3 % c.pMod = p.y ∧
        c.dec k.qx * q.z ^ 2 % c.pMod = q.x ∧ c.dec k.qy * q.z ^ 3 % c.pMod = q.y ∧
        exec side.1 s = .next { s with pairs := s.pairs ++ [k], cmdcnt := s.cmdcnt + 1 }))

/-- For entries in the subgroups PAIR.RESULT writes valid components that denote the pairing value, one for the empty
list and else the final exponentiation of the Miller value, and PAIR.CHECK whether it is one, both emptying the
list. PAIR.MILLER, where the reference Miller value is not zero, writes some non-zero value of valid components
with the same final exponentiation and keeps the list (six free values are the model's choice, log entry 3; the
set is that of R302, log entry 12). The Miller value: T' of the doubling step denotes 2T for a T on the G2 curve,
T' of the addition step denotes T + Q unless λ = 0, where x and z of T' are 0, and the coefficients are those of
R298 and R299 in closed form; ell is the product with the sparse element whose components 0, 1, 4 (M) or 0, 3, 4
(D) hold the coefficients as R301 places them; the Miller value is the product of the two loops under their signs,
the second by the first Frobenius power, each the product over the pairs of the loop for one pair alone, over the
bits of ATE_LOOP1 below the top one and the digits of NAF(ATE_LOOP2), most significant first; these bits are those
of ATE_LOOP1. (R291, R294, R296, R298, R299, R300, R301, R302, R313, R314, R315.) -/
def Obligations.PairValue : Prop :=
  (∀ (s : State) (rd : Idx), s.cfg.Sized → s.entries.all s.cfg.pairInDomain →
    let reference := s.cfg.miller s.entries
    let value := if s.pairs = [] then s.cfg.one6 else s.cfg.finalExp reference
    (∃ v, s.cfg.Denotes6 v value ∧ exec (.pairResult rd) s = .next { (s.setFp6 rd v).counted with pairs := [] }) ∧
    exec .pairCheck s = .next { (s.setB (decide (value = s.cfg.one6))).counted with pairs := [] } ∧
    (reference ≠ Config.zero6 → ∃ v : SexticElt Fp, v.all (valid s.cfg) ∧ s.cfg.dec6 v ≠ Config.zero6 ∧
      s.cfg.finalExp (s.cfg.dec6 v) = s.cfg.finalExp reference ∧
      exec (.pairMiller rd) s = .next ((s.setFp6 rd v).spend 6).counted)) ∧
  (∀ (s : State) (rd : Idx), s.cfg.Sized → s.pairs = [] →
    SetsFp6 (.pairResult rd) s rd ⟨⟨BitVec.ofNat 768 (2 ^ 768 % s.cfg.pMod), 0, 0⟩, ⟨0, 0, 0⟩⟩ ∧
    SetsB .pairCheck s true) ∧
  (∀ (c : Config) (x y z : Nat), c.FieldLegal → x < c.pMod → y < c.pMod → z < c.pMod →
    let p := c.pMod
    let step := c.doublingStep ⟨x, y, z⟩
    (y ^ 2 * z % p = (x ^ 3 + c.bG2 * z ^ 3) % p →
      c.denoteHom step.1 = c.groupAdd (c.denoteHom ⟨x, y, z⟩) (c.denoteHom ⟨x, y, z⟩)) ∧
    step.2 = ⟨(3 * c.bG2 * z ^ 2 + (p - 1) * y ^ 2) % p, 3 * x ^ 2 % p, (p - 1) * (2 * y * z) % p⟩) ∧
  (∀ (c : Config) (x y z qx qy : Nat), c.FieldLegal → x < c.pMod → y < c.pMod → z < c.pMod → qx < c.pMod → qy < c.pMod →
    let p := c.pMod
    let step := c.additionStep ⟨x, y, z⟩ qx qy
    (z ≠ 0 → x ≠ qx * z % p → c.denoteHom step.1 = c.groupAdd (c.denoteHom ⟨x, y, z⟩) (some ⟨qx, qy⟩)) ∧
    (x = qx * z % p → step.1.x = 0 ∧ step.1.z = 0) ∧
    step.2 = ⟨(y * qx + (p - 1) * (x * qy)) % p, (qy * z + (p - 1) * y) % p, (x + (p - 1) * (qx * z)) % p⟩) ∧
  (∀ (c : Config) (f : SexticElt Nat) (l : Config.Line) (px py : Nat),
    c.ell f l px py = c.mul6 f (match c.twist with
      | .mType => ⟨⟨l.konst, l.ofPx * px % c.pMod, 0⟩, ⟨0, l.ofPy * py % c.pMod, 0⟩⟩
      | .dType => ⟨⟨l.ofPy * py % c.pMod, 0, 0⟩, ⟨l.ofPx * px % c.pMod, l.konst, 0⟩⟩)) ∧
  (∀ (c : Config) (pairs : List (Pair Nat)), c.Sized →
    let signed (negated : Bool) (f : SexticElt Nat) := if negated then c.conj6 f else f
    c.miller pairs = c.mul6
      (signed c.loop1Neg (c.productOfLoops pairs (bitsBelowTop c.ateLoop1).reverse))
      (signed c.loop2Neg (c.frob6 (c.productOfLoops pairs (naf c.ateLoop2)) 1))) ∧
  (∀ n : Nat, 1 ≤ n → digitsValue (bitsBelowTop n).reverse = n ∧ .minus ∉ bitsBelowTop n)

/-- For a legal modulus and valid components FEXP.EASY writes the power by (p³−1)(p+1), which lies in the cyclotomic
subgroup for a non-zero operand; FEXP.HARD, on the cyclotomic subgroup, the power by HARD_MULT·((p²−p+1)/r); FEXP,
for a non-zero operand and r dividing p²−p+1, the power by HARD_MULT·((p⁶−1)/r), which is the function finalExp
that the pairing commands are stated with. For a legal order and multiplier its values have a power by r of one,
and they are one exactly where the power by (p⁶−1)/r is, whatever HARD_MULT. (R303, R304, R305, R316, R317, R318.) -/
def Obligations.FinalExponentiation : Prop :=
  (∀ (s : State) (rd ra : Idx), s.cfg.FieldLegal → (s.getFp6 ra).all (valid s.cfg) →
    let c := s.cfg
    let p := c.pMod
    let f := c.dec6 (s.getFp6 ra)
    (∃ v, c.Denotes6 v (c.power6 f ((p ^ 3 - 1) * (p + 1))) ∧
      (f ≠ Config.zero6 → c.power6 (c.dec6 v) (p ^ 2 - p + 1) = c.one6) ∧ SetsFp6 (.fexpEasy rd ra) s rd v) ∧
    (c.power6 f (p ^ 2 - p + 1) = c.one6 →
      ∃ v, c.Denotes6 v (c.power6 f (c.hardMult * ((p ^ 2 - p + 1) / c.rOrd))) ∧ SetsFp6 (.fexpHard rd ra) s rd v) ∧
    (f ≠ Config.zero6 → c.rOrd ∣ p ^ 2 - p + 1 →
      c.finalExp f = c.power6 f (c.hardMult * ((p ^ 6 - 1) / c.rOrd)) ∧
      ∃ v, c.Denotes6 v (c.finalExp f) ∧ SetsFp6 (.fexp rd ra) s rd v) ∧
    (f ≠ Config.zero6 → c.OrderLegal →
      c.power6 (c.finalExp f) c.rOrd = c.one6 ∧
      (c.finalExp f = c.one6 ↔ c.power6 f ((p ^ 6 - 1) / c.rOrd) = c.one6)))

/-- For every n of at least 1 the emitted digits, under the implicit leading 1, have the value n, and no two adjacent
ones are both non-zero. (R295.) -/
def Obligations.NonAdjacentForm : Prop :=
  ∀ n : Nat, 1 ≤ n → digitsValue (naf n) = n ∧ NonAdjacent (naf n)

/-- A store, then a load of the same type at the same address with DLEN at the type's width into any register: SC, FP,
FP3, FP6 give the identical value; for a legal modulus and a curve constant b that is not 0 modulo p (so that no
finite point is all zeros) a point in the domain loads without error as a triple that denotes the same point.
(R75, R58, R65.) -/
def Obligations.RoundTrip : Prop :=
  (∀ (s t u : State) (ra rd : Idx), s.dptr.toNat + 96 ≤ s.cfg.dmemSize → s.dlen = 96 →
    exec (.scSt ra) s = .next t → exec (.scLd rd) t = .next u → u.getSc rd = s.getSc ra) ∧
  (∀ (s t u : State) (ra rd : FpIdx), s.dptr.toNat + 96 ≤ s.cfg.dmemSize → s.dlen = 96 →
    exec (.fpSt ra) s = .next t → exec (.fpLd rd) t = .next u → u.getFp rd = s.getFp ra) ∧
  (∀ (s t u : State) (ra rd : Idx), s.dptr.toNat + 288 ≤ s.cfg.dmemSize → s.dlen = 288 →
    exec (.fp3St ra) s = .next t → exec (.fp3Ld rd) t = .next u → u.getFp3 rd = s.getFp3 ra) ∧
  (∀ (s t u : State) (ra rd : Idx), s.dptr.toNat + 576 ≤ s.cfg.dmemSize → s.dlen = 576 →
    exec (.fp6St ra) s = .next t → exec (.fp6Ld rd) t = .next u → u.getFp6 rd = s.getFp6 ra) ∧
  (∀ (s t u : State) (ra rd : Idx) (g : CurveGroup), s.cfg.FieldLegal → curveB s.cfg g % s.cfg.pMod ≠ 0 →
    s.pointOk g ra → s.dptr.toNat + 192 ≤ s.cfg.dmemSize → s.dlen = 192 →
    ∀ ij, (g, ij) ∈ [(CurveGroup.g1, (Instr.g1St ra, Instr.g1Ld rd)), (.g2, (Instr.g2St ra, Instr.g2Ld rd))] →
      exec ij.1 s = .next t → exec ij.2 t = .next u →
      u.err = s.err ∧ s.cfg.denote (u.residues g rd) = s.cfg.denote (s.residues g ra))

/-- For every command of the three field families with a domain, FEXP, FEXP.EASY and FEXP.HARD among them: an operand
out of the domain makes each destination a drawn value of full range, without error, and changes nothing else. The
form of the draws is deduced (log entry 14); which free values they take, and how many, is the model's choice (log
entry 3). (R17, R111, R161, R192, R219, R316.) -/
def Obligations.FieldOutOfDomain : Prop :=
  (∀ (s : State) (rd ra rb : FpIdx) (k : Idx),
    let drawn : State := ((s.setFp rd (s.free 0)).spend 1).counted
    (valid s.cfg (s.getFp ra) = false →
      (∀ i ∈ [Instr.fpDouble rd ra, .fpNeg rd ra, .fpInv rd ra, .fpExp rd ra k, .fpMulNr rd ra, .fpLDouble rd ra],
        exec i s = .next drawn) ∧
      DrawsB (.fpIsQnr ra) s ∧
      exec (.fpSqrt rd ra) s =
        .next ((((s.setFp rd (s.free 0)).spend 1).setB ((s.free 1).getLsbD 0)).spend 1).counted) ∧
    ((valid s.cfg (s.getFp ra) && valid s.cfg (s.getFp rb)) = false →
      ∀ i ∈ [Instr.fpAdd rd ra rb, .fpSub rd ra rb, .fpLAdd rd ra rb, .fpLSub rd ra rb], exec i s = .next drawn) ∧
    (lazyOk s.cfg (s.getFp ra) = false →
      ∀ i ∈ [Instr.fpToMont rd ra, .fpFromMont rd ra, .fpSquare rd ra], exec i s = .next drawn) ∧
    ((lazyOk s.cfg (s.getFp ra) && lazyOk s.cfg (s.getFp rb)) = false → exec (.fpMul rd ra rb) s = .next drawn)) ∧
  (∀ (s : State) (rd ra rb : Idx) (imm8 : BitVec 8),
    let drawn : State := ((s.setFp3 rd (s.freeCubic 0)).spend 3).counted
    ((s.getFp3 ra).all (valid s.cfg) = false →
      ∀ i ∈ [Instr.fp3Double rd ra, .fp3Neg rd ra, .fp3Inv rd ra, .fp3Exp rd ra rb, .fp3Frob rd ra imm8],
        exec i s = .next drawn) ∧
    (((s.getFp3 ra).all (valid s.cfg) && (s.getFp3 rb).all (valid s.cfg)) = false →
      ∀ i ∈ [Instr.fp3Add rd ra rb, .fp3Sub rd ra rb, .fp3LAdd rd ra rb], exec i s = .next drawn) ∧
    ((s.getFp3 ra).all (lazyOk s.cfg) = false → exec (.fp3Square rd ra) s = .next drawn) ∧
    (((s.getFp3 ra).all (lazyOk s.cfg) && (s.getFp3 rb).all (lazyOk s.cfg)) = false →
      exec (.fp3Mul rd ra rb) s = .next drawn) ∧
    (((s.getFp3 ra).all (lazyOk s.cfg) && lazyOk s.cfg (s.getFp3 rb).c0) = false →
      exec (.fp3Mul0 rd ra rb) s = .next drawn)) ∧
  (∀ (s : State) (rd ra rb : Idx) (imm8 : BitVec 8) (x y z : FpIdx),
    let drawn : State := ((s.setFp6 rd s.freeSextic).spend 6).counted
    ((s.getFp6 ra).all (valid s.cfg) = false →
      (∀ i ∈ [Instr.fp6Double rd ra, .fp6Neg rd ra, .fp6Inv rd ra, .fp6Exp rd ra rb, .fp6Conj rd ra,
        .fp6Frob rd ra imm8, .fexpEasy rd ra], exec i s = .next drawn) ∧ DrawsB (.fp6IsValid ra) s) ∧
    (((s.getFp6 ra).all (valid s.cfg) && (s.getFp6 rb).all (valid s.cfg)) = false →
      ∀ i ∈ [Instr.fp6Add rd ra rb, .fp6Sub rd ra rb, .fp6LAdd rd ra rb], exec i s = .next drawn) ∧
    ((s.getFp6 ra).all (lazyOk s.cfg) = false → exec (.fp6Square rd ra) s = .next drawn) ∧
    (((s.getFp6 ra).all (lazyOk s.cfg) && (s.getFp6 rb).all (lazyOk s.cfg)) = false →
      exec (.fp6Mul rd ra rb) s = .next drawn) ∧
    (((s.getFp6 rd).all (lazyOk s.cfg) && lazyOk s.cfg (s.getFp x) && lazyOk s.cfg (s.getFp y) &&
        lazyOk s.cfg (s.getFp z)) = false →
      ∀ i ∈ [Instr.fp6Mul014 rd x y z, .fp6Mul034 rd x y z], exec i s = .next drawn) ∧
    (((s.getFp6 ra).all (valid s.cfg) && s.cfg.isCyclotomic (s.cfg.dec6 (s.getFp6 ra))) = false →
      ∀ i ∈ [Instr.fp6CycSq rd ra, .fexpHard rd ra], exec i s = .next drawn) ∧
    (((s.getFp6 ra).all (valid s.cfg) && s.cfg.dec6 (s.getFp6 ra) != Config.zero6) = false →
      exec (.fexp rd ra) s = .next drawn))

/-- For every point command with a domain, the stores, the queueing and the pairing commands among them: an operand
out of the domain makes the destination (register, FLAG.B, stored bytes, queued entry) drawn, without error other
than the range of a store, and changes nothing else but what the rule writes anyway. That a store still checks its
range and stores 192 drawn bytes is deduced (log entry 14), and so is that a queued entry holds drawn valid values
(log entry 11); which free values the draws take, and how many, is the model's choice (log entry 3). (R17, R223,
R272, R308.) -/
def Obligations.PointOutOfDomain : Prop :=
  (∀ (s : State) (rd ra rb : Idx) (g : CurveGroup),
    let drawn : State := ((s.setPoint g rd s.freePoint).spend 3).counted
    (s.pointOk g ra = false →
      (∀ i, (g, i) ∈ [(.g1, .g1Double rd ra), (.g2, .g2Double rd ra), (.g1, .g1Affine rd ra), (.g2, .g2Affine rd ra),
        (.g1, .g1MulSc rd ra rb), (.g2, .g2MulSc rd ra rb), (.g1, .g1ClrCof rd ra), (.g2, .g2ClrCof rd ra)] →
        exec i s = .next drawn) ∧
      (g = .g2 → DrawsB (.g2InSub ra) s) ∧
      (s.dptr.toNat + 192 ≤ s.cfg.dmemSize → ∀ i, (g, i) ∈ [(.g1, .g1St ra), (.g2, .g2St ra)] →
        Stores i s 192 (joined [s.free 0, s.free 1]) 2)) ∧
    ((s.pointOk g ra && s.pointOk g rb) = false →
      (∀ i, (g, i) ∈ [(.g1, .g1Add rd ra rb), (.g2, .g2Add rd ra rb), (.g1, .g1Sub rd ra rb), (.g2, .g2Sub rd ra rb)] →
        exec i s = .next drawn) ∧
      ∀ i, (g, i) ∈ [(.g1, .g1Eq ra rb), (.g2, .g2Eq ra rb)] → DrawsB i s) ∧
    ((s.getPoint g ra).all (valid s.cfg) = false →
      (∀ i, (g, i) ∈ [(.g1, .g1Neg rd ra), (.g2, .g2Neg rd ra)] → exec i s = .next drawn) ∧
      ∀ i, (g, i) ∈ [(.g1, .g1IsOnCurve ra), (.g2, .g2IsOnCurve ra)] → DrawsB i s)) ∧
  (∀ (s : State) (rd ra rb : Idx) (imm8 : BitVec 8) (g : CurveGroup), ra.val + imm8.toNat ≤ 8 → rb.val + imm8.toNat ≤ 8 →
    ∀ i, (g, i) ∈ [(.g1, .g1Msm rd ra rb imm8), (.g2, .g2Msm rd ra rb imm8)] →
      ((∃ k < imm8.toNat, s.pointOk g (nthAfter ra k) = false) →
        exec i s = .next ((s.setPoint g rd s.freePoint).spend 3).counted) ∧
      ((∀ k < imm8.toNat, s.pointOk g (nthAfter ra k)) → s.cfg.Sized →
        (∃ k < imm8.toNat, bitLen s.cfg.rOrd < bitLen (s.getSc (nthAfter rb k)).toNat) →
        ∃ v : Point Fp, v.all (valid s.cfg) ∧ DrawsPoint i s g rd v)) ∧
  (∀ (s : State) (ra rb : Idx), ∀ i ∈ [Instr.pairAdd ra rb, .pairAddInv ra rb], s.cfg.Sized →
    (s.pointOk .g1 ra && s.pointOk .g2 rb) = false → (s.getPoint .g1 ra).z ≠ 0 → (s.getPoint .g2 rb).z ≠ 0 →
    s.pairs.length ≠ s.cfg.maxPairs →
    ∃ k, validPair s.cfg k ∧
      exec i s = .next { s with pairs := s.pairs ++ [k], draws := s.draws + 4, cmdcnt := s.cmdcnt + 1 }) ∧
  (∀ (s : State) (rd : Idx), s.entries.all s.cfg.pairInDomain = false →
    exec (.pairResult rd) s = .next { ((s.setFp6 rd s.freeSextic).spend 6).counted with pairs := [] } ∧
    exec .pairCheck s = .next { ((s.setB ((s.free 0).getLsbD 0)).spend 1).counted with pairs := [] } ∧
    exec (.pairMiller rd) s = .next ((s.setFp6 rd s.freeSextic).spend 6).counted)
end

