-- ==== Sys2Proof/Laws/Decode.lean ====
section
/-! SUPPORT. The fields of an encoded word, a word under a mask field by field, and that no two rows of the opcode map
share an opcode. -/
namespace Sys2Proof

section Fields
variable (op imm8 op' imm8' : BitVec 8) (rd ra rb rc rd' ra' rb' rc' : BitVec 4) (imm20 imm20' : BitVec 20)
  (imm24 imm24' : BitVec 24)

/-! ### The integer a format lays out (R82, R83, R84) -/

theorem wordR_toNat : (wordR op rd ra rb rc imm8).toNat =
    op.toNat * 2 ^ 24 + rd.toNat * 2 ^ 20 + ra.toNat * 2 ^ 16 + rb.toNat * 2 ^ 12 + rc.toNat * 2 ^ 8 + imm8.toNat := by
  have h1 := rd.isLt
  have h2 := ra.isLt
  have h3 := rb.isLt
  have h4 := rc.isLt
  have h5 := imm8.isLt
  simp only [wordR, BitVec.toNat_append, ← Nat.shiftLeft_add_eq_or_of_lt, h1, h2, h3, h4, h5]
  simp only [Nat.shiftLeft_eq]
  omega

theorem wordS_toNat : (wordS op imm24).toNat = op.toNat * 2 ^ 24 + imm24.toNat := by
  rw [wordS, BitVec.toNat_append, ← Nat.shiftLeft_add_eq_or_of_lt imm24.isLt, Nat.shiftLeft_eq]

theorem wordI_toNat : (wordI op rd imm20).toNat = op.toNat * 2 ^ 24 + rd.toNat * 2 ^ 20 + imm20.toNat := by
  have h1 := rd.isLt
  have h2 := imm20.isLt
  simp only [wordI, BitVec.toNat_append, ← Nat.shiftLeft_add_eq_or_of_lt, h1, h2]
  simp only [Nat.shiftLeft_eq]
  omega

/-! ### The fields of a word, as integers -/

theorem opcodeOf_toNat (w : Word) : (opcodeOf w).toNat = w.toNat / 2 ^ 24 % 2 ^ 8 := by
  simp [opcodeOf, Nat.shiftRight_eq_div_pow]

theorem rdOf_toNat (w : Word) : (rdOf w).toNat = w.toNat / 2 ^ 20 % 2 ^ 4 := by
  simp [rdOf, Nat.shiftRight_eq_div_pow]

theorem raOf_toNat (w : Word) : (raOf w).toNat = w.toNat / 2 ^ 16 % 2 ^ 4 := by
  simp [raOf, Nat.shiftRight_eq_div_pow]

theorem rbOf_toNat (w : Word) : (rbOf w).toNat = w.toNat / 2 ^ 12 % 2 ^ 4 := by
  simp [rbOf, Nat.shiftRight_eq_div_pow]

theorem rcOf_toNat (w : Word) : (rcOf w).toNat = w.toNat / 2 ^ 8 % 2 ^ 4 := by
  simp [rcOf, Nat.shiftRight_eq_div_pow]

theorem imm8Of_toNat (w : Word) : (imm8Of w).toNat = w.toNat % 2 ^ 8 := by simp [imm8Of]

theorem imm20Of_toNat (w : Word) : (imm20Of w).toNat = w.toNat % 2 ^ 20 := by simp [imm20Of]

theorem imm24Of_toNat (w : Word) : (imm24Of w).toNat = w.toNat % 2 ^ 24 := by simp [imm24Of]

/-! ### The fields of an encoded word -/

section
variable {op imm8 rd ra rb rc imm20 imm24}

@[simp] theorem opcodeOf_wordR : opcodeOf (wordR op rd ra rb rc imm8) = op := by
  apply BitVec.eq_of_toNat_eq
  rw [opcodeOf_toNat, wordR_toNat]
  omega

@[simp] theorem rdOf_wordR : rdOf (wordR op rd ra rb rc imm8) = rd := by
  apply BitVec.eq_of_toNat_eq
  rw [rdOf_toNat, wordR_toNat]
  omega

@[simp] theorem raOf_wordR : raOf (wordR op rd ra rb rc imm8) = ra := by
  apply BitVec.eq_of_toNat_eq
  rw [raOf_toNat, wordR_toNat]
  omega

@[simp] theorem rbOf_wordR : rbOf (wordR op rd ra rb rc imm8) = rb := by
  apply BitVec.eq_of_toNat_eq
  rw [rbOf_toNat, wordR_toNat]
  omega

@[simp] theorem rcOf_wordR : rcOf (wordR op rd ra rb rc imm8) = rc := by
  apply BitVec.eq_of_toNat_eq
  rw [rcOf_toNat, wordR_toNat]
  omega

@[simp] theorem imm8Of_wordR : imm8Of (wordR op rd ra rb rc imm8) = imm8 := by
  apply BitVec.eq_of_toNat_eq
  rw [imm8Of_toNat, wordR_toNat]
  omega

@[simp] theorem opcodeOf_wordS : opcodeOf (wordS op imm24) = op := by
  apply BitVec.eq_of_toNat_eq
  rw [opcodeOf_toNat, wordS_toNat]
  omega

@[simp] theorem imm24Of_wordS : imm24Of (wordS op imm24) = imm24 := by
  apply BitVec.eq_of_toNat_eq
  rw [imm24Of_toNat, wordS_toNat]
  omega

@[simp] theorem opcodeOf_wordI : opcodeOf (wordI op rd imm20) = op := by
  apply BitVec.eq_of_toNat_eq
  rw [opcodeOf_toNat, wordI_toNat]
  omega

@[simp] theorem rdOf_wordI : rdOf (wordI op rd imm20) = rd := by
  apply BitVec.eq_of_toNat_eq
  rw [rdOf_toNat, wordI_toNat]
  omega

@[simp] theorem imm20Of_wordI : imm20Of (wordI op rd imm20) = imm20 := by
  apply BitVec.eq_of_toNat_eq
  rw [imm20Of_toNat, wordI_toNat]
  omega

end

/-! ### A word is its fields -/

theorem wordR_fields (w : Word) : wordR (opcodeOf w) (rdOf w) (raOf w) (rbOf w) (rcOf w) (imm8Of w) = w := by
  apply BitVec.eq_of_toNat_eq
  rw [wordR_toNat, opcodeOf_toNat, rdOf_toNat, raOf_toNat, rbOf_toNat, rcOf_toNat, imm8Of_toNat]
  omega

theorem wordS_fields (w : Word) : wordS (opcodeOf w) (imm24Of w) = w := by
  apply BitVec.eq_of_toNat_eq
  rw [wordS_toNat, opcodeOf_toNat, imm24Of_toNat]
  omega

theorem wordI_fields (w : Word) : wordI (opcodeOf w) (rdOf w) (imm20Of w) = w := by
  apply BitVec.eq_of_toNat_eq
  rw [wordI_toNat, opcodeOf_toNat, rdOf_toNat, imm20Of_toNat]
  omega

/-- A word of format R under a mask, field by field. -/
theorem wordR_and : wordR op rd ra rb rc imm8 &&& wordR op' rd' ra' rb' rc' imm8' =
    wordR (op &&& op') (rd &&& rd') (ra &&& ra') (rb &&& rb') (rc &&& rc') (imm8 &&& imm8') := by
  rw [← wordR_fields (wordR op rd ra rb rc imm8 &&& wordR op' rd' ra' rb' rc' imm8')]
  congr 1 <;> simp only [opcodeOf, rdOf, raOf, rbOf, rcOf, imm8Of, BitVec.extractLsb'_and]
  · exact congrArg₂ _ opcodeOf_wordR opcodeOf_wordR
  · exact congrArg₂ _ rdOf_wordR rdOf_wordR
  · exact congrArg₂ _ raOf_wordR raOf_wordR
  · exact congrArg₂ _ rbOf_wordR rbOf_wordR
  · exact congrArg₂ _ rcOf_wordR rcOf_wordR
  · exact congrArg₂ _ imm8Of_wordR imm8Of_wordR

/-- A word of format S under a mask, field by field. -/
theorem wordS_and : wordS op imm24 &&& wordS op' imm24' = wordS (op &&& op') (imm24 &&& imm24') := by
  rw [← wordS_fields (wordS op imm24 &&& wordS op' imm24')]
  congr 1 <;> simp only [opcodeOf, imm24Of, BitVec.extractLsb'_and]
  · exact congrArg₂ _ opcodeOf_wordS opcodeOf_wordS
  · exact congrArg₂ _ imm24Of_wordS imm24Of_wordS

/-- A word of format I under a mask, field by field. -/
theorem wordI_and : wordI op rd imm20 &&& wordI op' rd' imm20' =
    wordI (op &&& op') (rd &&& rd') (imm20 &&& imm20') := by
  rw [← wordI_fields (wordI op rd imm20 &&& wordI op' rd' imm20')]
  congr 1 <;> simp only [opcodeOf, rdOf, imm20Of, BitVec.extractLsb'_and]
  · exact congrArg₂ _ opcodeOf_wordI opcodeOf_wordI
  · exact congrArg₂ _ rdOf_wordI rdOf_wordI
  · exact congrArg₂ _ imm20Of_wordI imm20Of_wordI

end Fields

/-! ### Register fields -/

@[simp] theorem fpIdx_fpField (i : FpIdx) : fpIdx (fpField i) = i := rfl

@[simp] theorem fpField_fpIdx (f : BitVec 4) : fpField (fpIdx f) = f := rfl

@[simp] theorem idx_field (i : Idx) : idx (field i) = i := by
  revert i; decide

theorem field_idx (f : BitVec 4) (h : f &&& 8 = 0) : field (idx f) = f := by
  revert f; decide

@[simp] theorem field_and_eight (i : Idx) : field i &&& 8#4 = 0#4 := by
  revert i; decide

/-! ### The opcode map -/

/-- No two rows have the same opcode: decoding is unambiguous. -/
theorem opcodeMap_opcodes_nodup : (opcodeMap.map OpcodeRow.opcode).Nodup := by decide +kernel

/-- The row of an opcode is the one the search finds. -/
theorem find_row {row : OpcodeRow} (h : row ∈ opcodeMap) :
    opcodeMap.find? (fun r => r.opcode == row.opcode) = some row := by
  have hn := opcodeMap_opcodes_nodup
  generalize opcodeMap = rows at h hn
  induction rows with
  | nil => cases h
  | cons r rest ih =>
    rw [List.map_cons, List.nodup_cons] at hn
    rcases List.mem_cons.mp h with rfl | h
    · simp
    · have hne : r.opcode ≠ row.opcode := fun e => hn.1 (e ▸ List.mem_map_of_mem h)
      rw [List.find?_cons_of_neg (by simpa using hne)]
      exact ih h hn.2

/-- What decoding answers on a word of a row that the mask accepts. -/
theorem decode_row {row : OpcodeRow} {w : Word} (h : row ∈ opcodeMap) (ho : row.opcode = opcodeOf w)
    (hm : w &&& row.mask = row.pattern) :
    decode w = match (row.make w).defect with | none => .ok (row.make w) | some why => .error why := by
  unfold decode
  rw [← ho, find_row h]
  simp only [hm, ne_eq, not_true_eq_false, if_false] <;> split <;> simp_all

end Sys2Proof
end

