-- ==== Sys2Proof/Laws/Field.lean ====
section
/-! SUPPORT. The laws of the base field: square-and-multiply computes powers, `enc` and `dec` are inverse to each
other, and every operation over residues is the operation of the integers modulo `p`. -/
namespace Sys2Proof

/-! ### Square-and-multiply -/

theorem lt_two_pow_bitLen (n : Nat) : n < 2 ^ bitLen n := by
  unfold bitLen
  split
  · simp_all
  · exact Nat.lt_log2_self

/-- The scan computes `g e` whenever doubling and stepping do what they should to `g`. -/
theorem ladderGo_eq {α : Type} {dbl step : α → α} {start : α} (g : Nat → α) (h0 : g 0 = start)
    (hd : ∀ n, dbl (g n) = g (2 * n)) (hs : ∀ n, step (g n) = g (n + 1)) (bits : Nat) :
    ∀ e, e < 2 ^ bits → ladderGo dbl step start bits e = g e := by
  induction bits with
  | zero => intro e he; simp only [pow_zero, Nat.lt_one_iff] at he; rw [he, h0]; rfl
  | succ bits ih =>
    intro e he
    have hrec : ladderGo dbl step start bits (e / 2) = g (e / 2) := ih _ (by rw [pow_succ] at he; omega)
    simp only [ladderGo, hrec, hd, hs]
    split
    · congr 1; omega
    · congr 1; omega

theorem ladder_eq {α : Type} {dbl step : α → α} {start : α} (g : Nat → α) (h0 : g 0 = start)
    (hd : ∀ n, dbl (g n) = g (2 * n)) (hs : ∀ n, step (g n) = g (n + 1)) (e : Nat) : ladder dbl step start e = g e :=
  ladderGo_eq g h0 hd hs _ e (lt_two_pow_bitLen e)

/-- Square-and-multiply is exponentiation (R140). -/
theorem powMod_eq (m a e : Nat) : powMod m a e = a ^ e % m := by
  refine ladder_eq (fun n => a ^ n % m) (by simp) (fun n => ?_) (fun n => ?_) e
  · rw [← Nat.mul_mod, ← pow_add, two_mul]
  · rw [Nat.mod_mul_mod, pow_succ]

namespace Config

theorem pow_eq (c : Config) (a e : Nat) : c.pow a e = a ^ e % c.pMod := powMod_eq ..

theorem beta_eq {c : Config} (h : 4 < c.pMod) : c.beta = c.pMod - 4 := by
  rw [beta, neg, Nat.mod_eq_of_lt h, Nat.mod_eq_of_lt (by omega)]

/-! ### Montgomery form -/

variable {c : Config}

theorem Sized.pos (h : c.Sized) : 0 < c.pMod := Nat.zero_lt_of_lt h.low

theorem Sized.lt_word (h : c.Sized) : c.pMod < 2 ^ 768 := h.high.trans (by decide +kernel)

theorem FieldLegal.sized (h : c.FieldLegal) (hb : c.dmemSize ≤ 2 ^ 24) (hl : c.maxPairs ≤ 255) : c.Sized where
  odd := by have := h.mod12; omega
  low := lt_of_lt_of_le (by decide +kernel) h.low
  high := h.high
  buffer := hb
  list := hl

/-- `rInv` is the inverse of `R` (R13). -/
theorem rInv_mul (hodd : c.pMod % 2 = 1) (hlow : 1 < c.pMod) : c.rInv * 2 ^ 768 % c.pMod = 1 := by
  have h2 : (c.pMod + 1) / 2 * 2 = c.pMod + 1 := by omega
  rw [rInv, pow_eq, Nat.mod_mul_mod, ← mul_pow, h2, Nat.pow_mod, Nat.add_mod_left, Nat.mod_eq_of_lt hlow, one_pow,
    Nat.mod_eq_of_lt hlow]

theorem dec_lt (h : 0 < c.pMod) (x : Fp) : c.dec x < c.pMod := Nat.mod_lt _ h

/-- `dec x` is the residue whose product with `R` is `x` (R13). -/
theorem dec_mul_R (hodd : c.pMod % 2 = 1) (hlow : 1 < c.pMod) (x : Fp) :
    c.dec x * 2 ^ 768 % c.pMod = x.toNat % c.pMod := by
  rw [dec, Nat.mod_mul_mod, mul_assoc, Nat.mul_mod, rInv_mul hodd hlow, mul_one, Nat.mod_mod]

theorem enc_toNat (h : 0 < c.pMod) (hw : c.pMod ≤ 2 ^ 768) (a : Nat) : (c.enc a).toNat = a * 2 ^ 768 % c.pMod := by
  rw [enc, BitVec.toNat_ofNat, Nat.mod_eq_of_lt ((Nat.mod_lt _ h).trans_le hw)]

/-- `dec` undoes `enc` on residues. -/
theorem dec_enc (h : c.Sized) {a : Nat} (ha : a < c.pMod) : c.dec (c.enc a) = a := by
  have h1 : 1 < c.pMod := by have := h.low; omega
  rw [dec, enc_toNat h.pos h.lt_word.le, Nat.mod_mul_mod, mul_assoc, Nat.mul_mod, mul_comm (2 ^ 768),
    rInv_mul h.odd h1, mul_one, Nat.mod_mod, Nat.mod_eq_of_lt ha]

/-- `enc` undoes `dec` on valid values. -/
theorem enc_dec (h : c.Sized) {x : Fp} (hx : x.toNat < c.pMod) : c.enc (c.dec x) = x := by
  have h1 : 1 < c.pMod := by have := h.low; omega
  apply BitVec.eq_of_toNat_eq
  rw [enc_toNat h.pos h.lt_word.le, dec_mul_R h.odd h1, Nat.mod_eq_of_lt hx]

/-- A residue in Montgomery form is valid and denotes it. -/
theorem enc_denotes (h : c.Sized) {a : Nat} (ha : a < c.pMod) : c.Denotes (c.enc a) a :=
  ⟨by rw [enc_toNat h.pos h.lt_word.le]; exact Nat.mod_lt _ h.pos, dec_enc h ha⟩

/-- The Montgomery product (R112). -/
theorem mont_mul_R (hodd : c.pMod % 2 = 1) (hlow : 1 < c.pMod) (x y : Nat) :
    c.mont x y * 2 ^ 768 % c.pMod = x * y % c.pMod := by
  rw [mont, Nat.mod_mul_mod, mul_assoc, Nat.mul_mod, rInv_mul hodd hlow, mul_one, Nat.mod_mod]

/-! ### The operations over residues, in the integers modulo `p` -/

theorem add_lt (h : 0 < c.pMod) (a b : Nat) : c.add a b < c.pMod := Nat.mod_lt _ h
theorem sub_lt (h : 0 < c.pMod) (a b : Nat) : c.sub a b < c.pMod := Nat.mod_lt _ h
theorem neg_lt (h : 0 < c.pMod) (a : Nat) : c.neg a < c.pMod := Nat.mod_lt _ h
theorem mul_lt (h : 0 < c.pMod) (a b : Nat) : c.mul a b < c.pMod := Nat.mod_lt _ h
theorem pow_lt (h : 0 < c.pMod) (a e : Nat) : c.pow a e < c.pMod := by rw [pow_eq]; exact Nat.mod_lt _ h

@[simp] theorem cast_add (a b : Nat) : (c.add a b : ZMod c.pMod) = a + b := by simp [add]

@[simp] theorem cast_mul (a b : Nat) : (c.mul a b : ZMod c.pMod) = a * b := by simp [mul]

@[simp] theorem cast_sq (a : Nat) : (c.sq a : ZMod c.pMod) = a * a := cast_mul a a

@[simp] theorem cast_pow (a e : Nat) : (c.pow a e : ZMod c.pMod) = a ^ e := by simp [pow_eq]

theorem cast_sub {a b : Nat} (hb : b ≤ c.pMod) : (c.sub a b : ZMod c.pMod) = a - b := by
  simp [sub, Nat.cast_sub hb, sub_eq_add_neg]

theorem cast_neg {a : Nat} (ha : a ≤ c.pMod) : (c.neg a : ZMod c.pMod) = -a := by simp [neg, Nat.cast_sub ha]

/-- Two residues are equal when they are equal modulo `p`. -/
theorem eq_of_cast_eq {a b : Nat} (ha : a < c.pMod) (hb : b < c.pMod) (h : (a : ZMod c.pMod) = b) : a = b := by
  rw [ZMod.natCast_eq_natCast_iff'] at h
  rwa [Nat.mod_eq_of_lt ha, Nat.mod_eq_of_lt hb] at h

/-- The inverse of a non-zero residue modulo a prime (R139). -/
theorem cast_inv (hp : c.pMod.Prime) {a : Nat} (ha : (a : ZMod c.pMod) ≠ 0) : (c.inv a : ZMod c.pMod) = (a : ZMod c.pMod)⁻¹ := by
  have := Fact.mk hp
  rw [inv, cast_pow]
  refine eq_inv_of_mul_eq_one_left ?_
  rw [← pow_succ, show c.pMod - 2 + 1 = c.pMod - 1 by have := hp.two_le; omega]
  exact ZMod.pow_card_sub_one_eq_one ha

/-- The inverse of zero is zero (R139). -/
theorem inv_zero (hp : 2 < c.pMod) : c.inv 0 = 0 := by
  rw [inv, pow_eq, zero_pow (by omega), Nat.zero_mod]

end Config
end Sys2Proof
end

