-- ==== Sys2Proof/Laws/Memory.lean ====
section
/-! SUPPORT. The laws of the data buffer: a read after a write, and that every write keeps the canonical form and
the bounds. -/
namespace Sys2Proof.Machine

/-- A byte written reads back, every other byte reads as before, for any list of cells. -/
@[simp] theorem readByte_writeByte (m : Memory) (a x : Nat) (b : Byte) :
    readByte (writeByte m a b) x = if x = a then b else readByte m x := by
  induction m with
  | nil => by_cases hb : b = unlistedByte <;> by_cases hx : x = a <;> simp_all [writeByte, readByte, eq_comm]
  | cons c rest ih =>
    obtain ⟨k, old⟩ := c
    by_cases hk : k = a
    · by_cases hb : b = unlistedByte
      · simp only [writeByte, hk, hb, if_true, readByte] at ih ⊢
        rw [ih]
        by_cases hx : x = a
        · simp [hx]
        · simp [hx, Ne.symm hx]
      · by_cases hx : x = a
        · simp [writeByte, readByte, hk, hb, hx]
        · simp [writeByte, readByte, hk, hb, hx, Ne.symm hx]
    · by_cases hc : k < a ∨ b = unlistedByte
      · simp only [writeByte, hk, hc, if_true, if_false, readByte, ih]
        by_cases hx : k = x
        · simp only [hx, if_true]
          exact (if_neg fun h => hk (hx.trans h)).symm
        · simp [hx]
      · by_cases hx : x = a
        · simp [writeByte, readByte, hk, hc, hx]
        · simp [writeByte, readByte, hk, hc, hx, Ne.symm hx]

/-- The addresses of a write are the written one and those listed before. -/
theorem mem_writeByte {m : Memory} {a : Nat} {b : Byte} {c : Host.Cell} (h : c ∈ writeByte m a b) :
    (c = (a, b) ∧ b ≠ unlistedByte) ∨ c ∈ m := by
  induction m with
  | nil =>
    by_cases hb : b = unlistedByte
    · simp [writeByte, hb] at h
    · simp only [writeByte, hb, if_false, List.mem_singleton] at h
      exact .inl ⟨h, hb⟩
  | cons d rest ih =>
    obtain ⟨k, old⟩ := d
    simp only [writeByte] at h
    split at h
    · split at h
      · rcases ih h with h | h
        · exact .inl h
        · exact .inr (List.mem_cons_of_mem _ h)
      · rcases List.mem_cons.mp h with h | h
        · exact .inl ⟨h, ‹_›⟩
        · exact .inr (List.mem_cons_of_mem _ h)
    · split at h
      · rcases List.mem_cons.mp h with h | h
        · exact .inr (h ▸ List.mem_cons_self)
        · rcases ih h with h | h
          · exact .inl h
          · exact .inr (List.mem_cons_of_mem _ h)
      · rcases List.mem_cons.mp h with h | h
        · exact .inl ⟨h, fun e => ‹¬(k < a ∨ b = unlistedByte)› (.inr e)⟩
        · exact .inr h

/-- Writing one byte keeps the canonical form. -/
theorem writeByte_wf {m : Memory} (h : Memory.wf m) (a : Nat) (b : Byte) : Memory.wf (writeByte m a b) := by
  refine ⟨?_, fun c hc => (mem_writeByte hc).elim (fun e => e.1 ▸ e.2) (h.2 c)⟩
  obtain ⟨h, -⟩ := h
  induction m with
  | nil => by_cases hb : b = unlistedByte <;> simp [writeByte, hb]
  | cons d rest ih =>
    obtain ⟨k, old⟩ := d
    rw [List.pairwise_cons] at h
    simp only [writeByte]
    split
    · split
      · exact ih h.2
      · exact List.pairwise_cons.mpr ⟨fun c hc => by have := h.1 c hc; simp_all, h.2⟩
    · split
      · refine List.pairwise_cons.mpr ⟨fun c hc => ?_, ih h.2⟩
        rcases mem_writeByte hc with ⟨rfl, hb⟩ | hc
        · simp_all
        · exact h.1 c hc
      · have hk : a < k := by omega
        refine List.pairwise_cons.mpr ⟨fun c hc => ?_, List.pairwise_cons.mpr h⟩
        rcases List.mem_cons.mp hc with rfl | hc
        · exact hk
        · exact hk.trans (h.1 c hc)

/-- Writing one byte inside the bounds keeps the bounds. -/
theorem writeByte_within {m : Memory} {size a : Nat} (h : Memory.within m size) (ha : a < size) (b : Byte) :
    Memory.within (writeByte m a b) size := fun c hc =>
  (mem_writeByte hc).elim (fun e => e.1 ▸ ha) (h c)

/-- Writing a string keeps the canonical form. -/
theorem memWrite_wf (str : List Byte) : ∀ {m : Memory} (addr : Nat), Memory.wf m → Memory.wf (memWrite m addr str) := by
  induction str with
  | nil => exact fun _ h => h
  | cons b rest ih => exact fun addr h => ih (addr + 1) (writeByte_wf h addr b)

/-- Writing a string inside the bounds keeps the bounds. -/
theorem memWrite_within (str : List Byte) {size : Nat} : ∀ {m : Memory} {addr : Nat}, Memory.within m size →
    addr + str.length ≤ size → Memory.within (memWrite m addr str) size := by
  induction str with
  | nil => exact fun h _ => h
  | cons b rest ih =>
    intro m addr h hs
    rw [List.length_cons] at hs
    exact ih (writeByte_within h (by omega) b) (by omega)

/-- A write of a string leaves every address before it as it was. -/
theorem readByte_memWrite_of_lt (str : List Byte) : ∀ (m : Memory) (addr : Nat) {x : Nat}, x < addr →
    readByte (memWrite m addr str) x = readByte m x := by
  induction str with
  | nil => exact fun _ _ _ _ => rfl
  | cons b rest ih =>
    intro m addr x h
    rw [memWrite, ih _ _ (by omega), readByte_writeByte, if_neg (by omega)]

@[simp] theorem memRead_length (m : Memory) (addr n : Nat) : (memRead m addr n).length = n := by simp [memRead]

end Sys2Proof.Machine
end

