-- ==== Sys2Proof/Laws/State.lean ====
section
/-! SUPPORT. What each update of the state does to each field and each register: true by definition, stated once, so
that no later proof unfolds a record update. -/
namespace Sys2Proof.Machine

variable (s : State)

/-! ### `State.setFp` -/

@[simp] theorem State.setFp_fp3 (i : FpIdx) (v : Fp) : (s.setFp i v).fp3 = s.fp3 := rfl
@[simp] theorem State.setFp_fp6 (i : FpIdx) (v : Fp) : (s.setFp i v).fp6 = s.fp6 := rfl
@[simp] theorem State.setFp_g1 (i : FpIdx) (v : Fp) : (s.setFp i v).g1 = s.g1 := rfl
@[simp] theorem State.setFp_g2 (i : FpIdx) (v : Fp) : (s.setFp i v).g2 = s.g2 := rfl
@[simp] theorem State.setFp_sc (i : FpIdx) (v : Fp) : (s.setFp i v).sc = s.sc := rfl
@[simp] theorem State.setFp_pairs (i : FpIdx) (v : Fp) : (s.setFp i v).pairs = s.pairs := rfl
@[simp] theorem State.setFp_err (i : FpIdx) (v : Fp) : (s.setFp i v).err = s.err := rfl
@[simp] theorem State.setFp_errcmd (i : FpIdx) (v : Fp) : (s.setFp i v).errcmd = s.errcmd := rfl
@[simp] theorem State.setFp_erridx (i : FpIdx) (v : Fp) : (s.setFp i v).erridx = s.erridx := rfl
@[simp] theorem State.setFp_flag (i : FpIdx) (v : Fp) : (s.setFp i v).flag = s.flag := rfl
@[simp] theorem State.setFp_dptr (i : FpIdx) (v : Fp) : (s.setFp i v).dptr = s.dptr := rfl
@[simp] theorem State.setFp_dlen (i : FpIdx) (v : Fp) : (s.setFp i v).dlen = s.dlen := rfl
@[simp] theorem State.setFp_cmdcnt (i : FpIdx) (v : Fp) : (s.setFp i v).cmdcnt = s.cmdcnt := rfl
@[simp] theorem State.setFp_dmem (i : FpIdx) (v : Fp) : (s.setFp i v).dmem = s.dmem := rfl
@[simp] theorem State.setFp_host (i : FpIdx) (v : Fp) : (s.setFp i v).host = s.host := rfl
@[simp] theorem State.setFp_draws (i : FpIdx) (v : Fp) : (s.setFp i v).draws = s.draws := rfl
@[simp] theorem State.setFp_cfg (i : FpIdx) (v : Fp) : (s.setFp i v).cfg = s.cfg := rfl

/-! ### `State.setFp3` -/

@[simp] theorem State.setFp3_fp (i : Idx) (v : CubicElt Fp) : (s.setFp3 i v).fp = s.fp := rfl
@[simp] theorem State.setFp3_fp6 (i : Idx) (v : CubicElt Fp) : (s.setFp3 i v).fp6 = s.fp6 := rfl
@[simp] theorem State.setFp3_g1 (i : Idx) (v : CubicElt Fp) : (s.setFp3 i v).g1 = s.g1 := rfl
@[simp] theorem State.setFp3_g2 (i : Idx) (v : CubicElt Fp) : (s.setFp3 i v).g2 = s.g2 := rfl
@[simp] theorem State.setFp3_sc (i : Idx) (v : CubicElt Fp) : (s.setFp3 i v).sc = s.sc := rfl
@[simp] theorem State.setFp3_pairs (i : Idx) (v : CubicElt Fp) : (s.setFp3 i v).pairs = s.pairs := rfl
@[simp] theorem State.setFp3_err (i : Idx) (v : CubicElt Fp) : (s.setFp3 i v).err = s.err := rfl
@[simp] theorem State.setFp3_errcmd (i : Idx) (v : CubicElt Fp) : (s.setFp3 i v).errcmd = s.errcmd := rfl
@[simp] theorem State.setFp3_erridx (i : Idx) (v : CubicElt Fp) : (s.setFp3 i v).erridx = s.erridx := rfl
@[simp] theorem State.setFp3_flag (i : Idx) (v : CubicElt Fp) : (s.setFp3 i v).flag = s.flag := rfl
@[simp] theorem State.setFp3_dptr (i : Idx) (v : CubicElt Fp) : (s.setFp3 i v).dptr = s.dptr := rfl
@[simp] theorem State.setFp3_dlen (i : Idx) (v : CubicElt Fp) : (s.setFp3 i v).dlen = s.dlen := rfl
@[simp] theorem State.setFp3_cmdcnt (i : Idx) (v : CubicElt Fp) : (s.setFp3 i v).cmdcnt = s.cmdcnt := rfl
@[simp] theorem State.setFp3_dmem (i : Idx) (v : CubicElt Fp) : (s.setFp3 i v).dmem = s.dmem := rfl
@[simp] theorem State.setFp3_host (i : Idx) (v : CubicElt Fp) : (s.setFp3 i v).host = s.host := rfl
@[simp] theorem State.setFp3_draws (i : Idx) (v : CubicElt Fp) : (s.setFp3 i v).draws = s.draws := rfl
@[simp] theorem State.setFp3_cfg (i : Idx) (v : CubicElt Fp) : (s.setFp3 i v).cfg = s.cfg := rfl

/-! ### `State.setFp6` -/

@[simp] theorem State.setFp6_fp (i : Idx) (v : SexticElt Fp) : (s.setFp6 i v).fp = s.fp := rfl
@[simp] theorem State.setFp6_fp3 (i : Idx) (v : SexticElt Fp) : (s.setFp6 i v).fp3 = s.fp3 := rfl
@[simp] theorem State.setFp6_g1 (i : Idx) (v : SexticElt Fp) : (s.setFp6 i v).g1 = s.g1 := rfl
@[simp] theorem State.setFp6_g2 (i : Idx) (v : SexticElt Fp) : (s.setFp6 i v).g2 = s.g2 := rfl
@[simp] theorem State.setFp6_sc (i : Idx) (v : SexticElt Fp) : (s.setFp6 i v).sc = s.sc := rfl
@[simp] theorem State.setFp6_pairs (i : Idx) (v : SexticElt Fp) : (s.setFp6 i v).pairs = s.pairs := rfl
@[simp] theorem State.setFp6_err (i : Idx) (v : SexticElt Fp) : (s.setFp6 i v).err = s.err := rfl
@[simp] theorem State.setFp6_errcmd (i : Idx) (v : SexticElt Fp) : (s.setFp6 i v).errcmd = s.errcmd := rfl
@[simp] theorem State.setFp6_erridx (i : Idx) (v : SexticElt Fp) : (s.setFp6 i v).erridx = s.erridx := rfl
@[simp] theorem State.setFp6_flag (i : Idx) (v : SexticElt Fp) : (s.setFp6 i v).flag = s.flag := rfl
@[simp] theorem State.setFp6_dptr (i : Idx) (v : SexticElt Fp) : (s.setFp6 i v).dptr = s.dptr := rfl
@[simp] theorem State.setFp6_dlen (i : Idx) (v : SexticElt Fp) : (s.setFp6 i v).dlen = s.dlen := rfl
@[simp] theorem State.setFp6_cmdcnt (i : Idx) (v : SexticElt Fp) : (s.setFp6 i v).cmdcnt = s.cmdcnt := rfl
@[simp] theorem State.setFp6_dmem (i : Idx) (v : SexticElt Fp) : (s.setFp6 i v).dmem = s.dmem := rfl
@[simp] theorem State.setFp6_host (i : Idx) (v : SexticElt Fp) : (s.setFp6 i v).host = s.host := rfl
@[simp] theorem State.setFp6_draws (i : Idx) (v : SexticElt Fp) : (s.setFp6 i v).draws = s.draws := rfl
@[simp] theorem State.setFp6_cfg (i : Idx) (v : SexticElt Fp) : (s.setFp6 i v).cfg = s.cfg := rfl

/-! ### `State.setSc` -/

@[simp] theorem State.setSc_fp (i : Idx) (v : Fp) : (s.setSc i v).fp = s.fp := rfl
@[simp] theorem State.setSc_fp3 (i : Idx) (v : Fp) : (s.setSc i v).fp3 = s.fp3 := rfl
@[simp] theorem State.setSc_fp6 (i : Idx) (v : Fp) : (s.setSc i v).fp6 = s.fp6 := rfl
@[simp] theorem State.setSc_g1 (i : Idx) (v : Fp) : (s.setSc i v).g1 = s.g1 := rfl
@[simp] theorem State.setSc_g2 (i : Idx) (v : Fp) : (s.setSc i v).g2 = s.g2 := rfl
@[simp] theorem State.setSc_pairs (i : Idx) (v : Fp) : (s.setSc i v).pairs = s.pairs := rfl
@[simp] theorem State.setSc_err (i : Idx) (v : Fp) : (s.setSc i v).err = s.err := rfl
@[simp] theorem State.setSc_errcmd (i : Idx) (v : Fp) : (s.setSc i v).errcmd = s.errcmd := rfl
@[simp] theorem State.setSc_erridx (i : Idx) (v : Fp) : (s.setSc i v).erridx = s.erridx := rfl
@[simp] theorem State.setSc_flag (i : Idx) (v : Fp) : (s.setSc i v).flag = s.flag := rfl
@[simp] theorem State.setSc_dptr (i : Idx) (v : Fp) : (s.setSc i v).dptr = s.dptr := rfl
@[simp] theorem State.setSc_dlen (i : Idx) (v : Fp) : (s.setSc i v).dlen = s.dlen := rfl
@[simp] theorem State.setSc_cmdcnt (i : Idx) (v : Fp) : (s.setSc i v).cmdcnt = s.cmdcnt := rfl
@[simp] theorem State.setSc_dmem (i : Idx) (v : Fp) : (s.setSc i v).dmem = s.dmem := rfl
@[simp] theorem State.setSc_host (i : Idx) (v : Fp) : (s.setSc i v).host = s.host := rfl
@[simp] theorem State.setSc_draws (i : Idx) (v : Fp) : (s.setSc i v).draws = s.draws := rfl
@[simp] theorem State.setSc_cfg (i : Idx) (v : Fp) : (s.setSc i v).cfg = s.cfg := rfl

/-! ### `State.spend` -/

@[simp] theorem State.spend_fp (n : Nat) : (s.spend n).fp = s.fp := rfl
@[simp] theorem State.spend_fp3 (n : Nat) : (s.spend n).fp3 = s.fp3 := rfl
@[simp] theorem State.spend_fp6 (n : Nat) : (s.spend n).fp6 = s.fp6 := rfl
@[simp] theorem State.spend_g1 (n : Nat) : (s.spend n).g1 = s.g1 := rfl
@[simp] theorem State.spend_g2 (n : Nat) : (s.spend n).g2 = s.g2 := rfl
@[simp] theorem State.spend_sc (n : Nat) : (s.spend n).sc = s.sc := rfl
@[simp] theorem State.spend_pairs (n : Nat) : (s.spend n).pairs = s.pairs := rfl
@[simp] theorem State.spend_err (n : Nat) : (s.spend n).err = s.err := rfl
@[simp] theorem State.spend_errcmd (n : Nat) : (s.spend n).errcmd = s.errcmd := rfl
@[simp] theorem State.spend_erridx (n : Nat) : (s.spend n).erridx = s.erridx := rfl
@[simp] theorem State.spend_flag (n : Nat) : (s.spend n).flag = s.flag := rfl
@[simp] theorem State.spend_dptr (n : Nat) : (s.spend n).dptr = s.dptr := rfl
@[simp] theorem State.spend_dlen (n : Nat) : (s.spend n).dlen = s.dlen := rfl
@[simp] theorem State.spend_cmdcnt (n : Nat) : (s.spend n).cmdcnt = s.cmdcnt := rfl
@[simp] theorem State.spend_dmem (n : Nat) : (s.spend n).dmem = s.dmem := rfl
@[simp] theorem State.spend_host (n : Nat) : (s.spend n).host = s.host := rfl
@[simp] theorem State.spend_cfg (n : Nat) : (s.spend n).cfg = s.cfg := rfl

/-! ### `State.setB` -/

@[simp] theorem State.setB_fp (b : Bool) : (s.setB b).fp = s.fp := rfl
@[simp] theorem State.setB_fp3 (b : Bool) : (s.setB b).fp3 = s.fp3 := rfl
@[simp] theorem State.setB_fp6 (b : Bool) : (s.setB b).fp6 = s.fp6 := rfl
@[simp] theorem State.setB_g1 (b : Bool) : (s.setB b).g1 = s.g1 := rfl
@[simp] theorem State.setB_g2 (b : Bool) : (s.setB b).g2 = s.g2 := rfl
@[simp] theorem State.setB_sc (b : Bool) : (s.setB b).sc = s.sc := rfl
@[simp] theorem State.setB_pairs (b : Bool) : (s.setB b).pairs = s.pairs := rfl
@[simp] theorem State.setB_err (b : Bool) : (s.setB b).err = s.err := rfl
@[simp] theorem State.setB_errcmd (b : Bool) : (s.setB b).errcmd = s.errcmd := rfl
@[simp] theorem State.setB_erridx (b : Bool) : (s.setB b).erridx = s.erridx := rfl
@[simp] theorem State.setB_dptr (b : Bool) : (s.setB b).dptr = s.dptr := rfl
@[simp] theorem State.setB_dlen (b : Bool) : (s.setB b).dlen = s.dlen := rfl
@[simp] theorem State.setB_cmdcnt (b : Bool) : (s.setB b).cmdcnt = s.cmdcnt := rfl
@[simp] theorem State.setB_dmem (b : Bool) : (s.setB b).dmem = s.dmem := rfl
@[simp] theorem State.setB_host (b : Bool) : (s.setB b).host = s.host := rfl
@[simp] theorem State.setB_draws (b : Bool) : (s.setB b).draws = s.draws := rfl
@[simp] theorem State.setB_cfg (b : Bool) : (s.setB b).cfg = s.cfg := rfl

/-! ### `State.setCmp` -/

@[simp] theorem State.setCmp_fp (cmp : BitVec 2) : (s.setCmp cmp).fp = s.fp := rfl
@[simp] theorem State.setCmp_fp3 (cmp : BitVec 2) : (s.setCmp cmp).fp3 = s.fp3 := rfl
@[simp] theorem State.setCmp_fp6 (cmp : BitVec 2) : (s.setCmp cmp).fp6 = s.fp6 := rfl
@[simp] theorem State.setCmp_g1 (cmp : BitVec 2) : (s.setCmp cmp).g1 = s.g1 := rfl
@[simp] theorem State.setCmp_g2 (cmp : BitVec 2) : (s.setCmp cmp).g2 = s.g2 := rfl
@[simp] theorem State.setCmp_sc (cmp : BitVec 2) : (s.setCmp cmp).sc = s.sc := rfl
@[simp] theorem State.setCmp_pairs (cmp : BitVec 2) : (s.setCmp cmp).pairs = s.pairs := rfl
@[simp] theorem State.setCmp_err (cmp : BitVec 2) : (s.setCmp cmp).err = s.err := rfl
@[simp] theorem State.setCmp_errcmd (cmp : BitVec 2) : (s.setCmp cmp).errcmd = s.errcmd := rfl
@[simp] theorem State.setCmp_erridx (cmp : BitVec 2) : (s.setCmp cmp).erridx = s.erridx := rfl
@[simp] theorem State.setCmp_dptr (cmp : BitVec 2) : (s.setCmp cmp).dptr = s.dptr := rfl
@[simp] theorem State.setCmp_dlen (cmp : BitVec 2) : (s.setCmp cmp).dlen = s.dlen := rfl
@[simp] theorem State.setCmp_cmdcnt (cmp : BitVec 2) : (s.setCmp cmp).cmdcnt = s.cmdcnt := rfl
@[simp] theorem State.setCmp_dmem (cmp : BitVec 2) : (s.setCmp cmp).dmem = s.dmem := rfl
@[simp] theorem State.setCmp_host (cmp : BitVec 2) : (s.setCmp cmp).host = s.host := rfl
@[simp] theorem State.setCmp_draws (cmp : BitVec 2) : (s.setCmp cmp).draws = s.draws := rfl
@[simp] theorem State.setCmp_cfg (cmp : BitVec 2) : (s.setCmp cmp).cfg = s.cfg := rfl

/-! ### `State.counted` -/

@[simp] theorem State.counted_fp : (s.counted).fp = s.fp := rfl
@[simp] theorem State.counted_fp3 : (s.counted).fp3 = s.fp3 := rfl
@[simp] theorem State.counted_fp6 : (s.counted).fp6 = s.fp6 := rfl
@[simp] theorem State.counted_g1 : (s.counted).g1 = s.g1 := rfl
@[simp] theorem State.counted_g2 : (s.counted).g2 = s.g2 := rfl
@[simp] theorem State.counted_sc : (s.counted).sc = s.sc := rfl
@[simp] theorem State.counted_pairs : (s.counted).pairs = s.pairs := rfl
@[simp] theorem State.counted_err : (s.counted).err = s.err := rfl
@[simp] theorem State.counted_errcmd : (s.counted).errcmd = s.errcmd := rfl
@[simp] theorem State.counted_erridx : (s.counted).erridx = s.erridx := rfl
@[simp] theorem State.counted_flag : (s.counted).flag = s.flag := rfl
@[simp] theorem State.counted_dptr : (s.counted).dptr = s.dptr := rfl
@[simp] theorem State.counted_dlen : (s.counted).dlen = s.dlen := rfl
@[simp] theorem State.counted_dmem : (s.counted).dmem = s.dmem := rfl
@[simp] theorem State.counted_host : (s.counted).host = s.host := rfl
@[simp] theorem State.counted_draws : (s.counted).draws = s.draws := rfl
@[simp] theorem State.counted_cfg : (s.counted).cfg = s.cfg := rfl

/-! ### `State.setPoint` -/

@[simp] theorem State.setPoint_fp (g : CurveGroup) (i : Idx) (v : Point Fp) : (s.setPoint g i v).fp = s.fp := by
  cases g <;> rfl
@[simp] theorem State.setPoint_fp3 (g : CurveGroup) (i : Idx) (v : Point Fp) : (s.setPoint g i v).fp3 = s.fp3 := by
  cases g <;> rfl
@[simp] theorem State.setPoint_fp6 (g : CurveGroup) (i : Idx) (v : Point Fp) : (s.setPoint g i v).fp6 = s.fp6 := by
  cases g <;> rfl
@[simp] theorem State.setPoint_sc (g : CurveGroup) (i : Idx) (v : Point Fp) : (s.setPoint g i v).sc = s.sc := by
  cases g <;> rfl
@[simp] theorem State.setPoint_pairs (g : CurveGroup) (i : Idx) (v : Point Fp) : (s.setPoint g i v).pairs = s.pairs := by
  cases g <;> rfl
@[simp] theorem State.setPoint_err (g : CurveGroup) (i : Idx) (v : Point Fp) : (s.setPoint g i v).err = s.err := by
  cases g <;> rfl
@[simp] theorem State.setPoint_errcmd (g : CurveGroup) (i : Idx) (v : Point Fp) : (s.setPoint g i v).errcmd = s.errcmd := by
  cases g <;> rfl
@[simp] theorem State.setPoint_erridx (g : CurveGroup) (i : Idx) (v : Point Fp) : (s.setPoint g i v).erridx = s.erridx := by
  cases g <;> rfl
@[simp] theorem State.setPoint_flag (g : CurveGroup) (i : Idx) (v : Point Fp) : (s.setPoint g i v).flag = s.flag := by
  cases g <;> rfl
@[simp] theorem State.setPoint_dptr (g : CurveGroup) (i : Idx) (v : Point Fp) : (s.setPoint g i v).dptr = s.dptr := by
  cases g <;> rfl
@[simp] theorem State.setPoint_dlen (g : CurveGroup) (i : Idx) (v : Point Fp) : (s.setPoint g i v).dlen = s.dlen := by
  cases g <;> rfl
@[simp] theorem State.setPoint_cmdcnt (g : CurveGroup) (i : Idx) (v : Point Fp) : (s.setPoint g i v).cmdcnt = s.cmdcnt := by
  cases g <;> rfl
@[simp] theorem State.setPoint_dmem (g : CurveGroup) (i : Idx) (v : Point Fp) : (s.setPoint g i v).dmem = s.dmem := by
  cases g <;> rfl
@[simp] theorem State.setPoint_host (g : CurveGroup) (i : Idx) (v : Point Fp) : (s.setPoint g i v).host = s.host := by
  cases g <;> rfl
@[simp] theorem State.setPoint_draws (g : CurveGroup) (i : Idx) (v : Point Fp) : (s.setPoint g i v).draws = s.draws := by
  cases g <;> rfl
@[simp] theorem State.setPoint_cfg (g : CurveGroup) (i : Idx) (v : Point Fp) : (s.setPoint g i v).cfg = s.cfg := by
  cases g <;> rfl

/-! ### `clearError` -/

@[simp] theorem clearError_fp : (clearError s).fp = s.fp := rfl
@[simp] theorem clearError_fp3 : (clearError s).fp3 = s.fp3 := rfl
@[simp] theorem clearError_fp6 : (clearError s).fp6 = s.fp6 := rfl
@[simp] theorem clearError_g1 : (clearError s).g1 = s.g1 := rfl
@[simp] theorem clearError_g2 : (clearError s).g2 = s.g2 := rfl
@[simp] theorem clearError_sc : (clearError s).sc = s.sc := rfl
@[simp] theorem clearError_pairs : (clearError s).pairs = s.pairs := rfl
@[simp] theorem clearError_flag : (clearError s).flag = s.flag := rfl
@[simp] theorem clearError_dptr : (clearError s).dptr = s.dptr := rfl
@[simp] theorem clearError_dlen : (clearError s).dlen = s.dlen := rfl
@[simp] theorem clearError_cmdcnt : (clearError s).cmdcnt = s.cmdcnt := rfl
@[simp] theorem clearError_dmem : (clearError s).dmem = s.dmem := rfl
@[simp] theorem clearError_host : (clearError s).host = s.host := rfl
@[simp] theorem clearError_draws : (clearError s).draws = s.draws := rfl
@[simp] theorem clearError_cfg : (clearError s).cfg = s.cfg := rfl

/-! ### What the written field holds -/

@[simp] theorem State.spend_draws (n : Nat) : (s.spend n).draws = s.draws + n := rfl
@[simp] theorem State.counted_cmdcnt : s.counted.cmdcnt = s.cmdcnt + 1 := rfl
@[simp] theorem clearError_err : (clearError s).err = 0 := rfl
@[simp] theorem clearError_errcmd : (clearError s).errcmd = 0 := rfl
@[simp] theorem clearError_erridx : (clearError s).erridx = 0 := rfl
@[simp] theorem State.setB_flag (b : Bool) : (s.setB b).flag = withFlagB s.flag b := rfl
@[simp] theorem State.setCmp_flag (cmp : BitVec 2) : (s.setCmp cmp).flag = withFlagCmp s.flag cmp := rfl

/-! ### Register files: a read after a write -/

theorem State.getFp_setFp (i k : FpIdx) (v : Fp) : (s.setFp i v).getFp k = if i = k then v else s.getFp k := by
  simp [State.getFp, State.setFp, Vector.get_eq_getElem, Vector.getElem_set, Fin.ext_iff]

theorem State.getFp3_setFp3 (i k : Idx) (v : CubicElt Fp) :
    (s.setFp3 i v).getFp3 k = if i = k then v else s.getFp3 k := by
  simp [State.getFp3, State.setFp3, Vector.get_eq_getElem, Vector.getElem_set, Fin.ext_iff]

theorem State.getFp6_setFp6 (i k : Idx) (v : SexticElt Fp) :
    (s.setFp6 i v).getFp6 k = if i = k then v else s.getFp6 k := by
  simp [State.getFp6, State.setFp6, Vector.get_eq_getElem, Vector.getElem_set, Fin.ext_iff]

theorem State.getSc_setSc (i k : Idx) (v : Fp) : (s.setSc i v).getSc k = if i = k then v else s.getSc k := by
  simp [State.getSc, State.setSc, Vector.get_eq_getElem, Vector.getElem_set, Fin.ext_iff]

theorem State.getPoint_setPoint (g h : CurveGroup) (i k : Idx) (v : Point Fp) :
    (s.setPoint g i v).getPoint h k = if g = h ∧ i = k then v else s.getPoint h k := by
  cases g <;> cases h <;>
    simp [State.getPoint, State.setPoint, Vector.get_eq_getElem, Vector.getElem_set, Fin.ext_iff]

/-! ### Register files: a read after an update of something else -/

@[simp] theorem State.getFp_setFp3 (i : Idx) (v : CubicElt Fp) (k : FpIdx) : (s.setFp3 i v).getFp k = s.getFp k := rfl
@[simp] theorem State.getFp_setFp6 (i : Idx) (v : SexticElt Fp) (k : FpIdx) : (s.setFp6 i v).getFp k = s.getFp k := rfl
@[simp] theorem State.getFp_setSc (i : Idx) (v : Fp) (k : FpIdx) : (s.setSc i v).getFp k = s.getFp k := rfl
@[simp] theorem State.getFp_spend (n : Nat) (k : FpIdx) : (s.spend n).getFp k = s.getFp k := rfl
@[simp] theorem State.getFp_setB (b : Bool) (k : FpIdx) : (s.setB b).getFp k = s.getFp k := rfl
@[simp] theorem State.getFp_setCmp (cmp : BitVec 2) (k : FpIdx) : (s.setCmp cmp).getFp k = s.getFp k := rfl
@[simp] theorem State.getFp_counted (k : FpIdx) : (s.counted).getFp k = s.getFp k := rfl
@[simp] theorem State.getFp_setPoint (g : CurveGroup) (i : Idx) (v : Point Fp) (k : FpIdx) :
    (s.setPoint g i v).getFp k = s.getFp k := by cases g <;> rfl
@[simp] theorem State.getFp3_setFp (i : FpIdx) (v : Fp) (k : Idx) : (s.setFp i v).getFp3 k = s.getFp3 k := rfl
@[simp] theorem State.getFp3_setFp6 (i : Idx) (v : SexticElt Fp) (k : Idx) : (s.setFp6 i v).getFp3 k = s.getFp3 k := rfl
@[simp] theorem State.getFp3_setSc (i : Idx) (v : Fp) (k : Idx) : (s.setSc i v).getFp3 k = s.getFp3 k := rfl
@[simp] theorem State.getFp3_spend (n : Nat) (k : Idx) : (s.spend n).getFp3 k = s.getFp3 k := rfl
@[simp] theorem State.getFp3_setB (b : Bool) (k : Idx) : (s.setB b).getFp3 k = s.getFp3 k := rfl
@[simp] theorem State.getFp3_setCmp (cmp : BitVec 2) (k : Idx) : (s.setCmp cmp).getFp3 k = s.getFp3 k := rfl
@[simp] theorem State.getFp3_counted (k : Idx) : (s.counted).getFp3 k = s.getFp3 k := rfl
@[simp] theorem State.getFp3_setPoint (g : CurveGroup) (i : Idx) (v : Point Fp) (k : Idx) :
    (s.setPoint g i v).getFp3 k = s.getFp3 k := by cases g <;> rfl
@[simp] theorem State.getFp6_setFp (i : FpIdx) (v : Fp) (k : Idx) : (s.setFp i v).getFp6 k = s.getFp6 k := rfl
@[simp] theorem State.getFp6_setFp3 (i : Idx) (v : CubicElt Fp) (k : Idx) : (s.setFp3 i v).getFp6 k = s.getFp6 k := rfl
@[simp] theorem State.getFp6_setSc (i : Idx) (v : Fp) (k : Idx) : (s.setSc i v).getFp6 k = s.getFp6 k := rfl
@[simp] theorem State.getFp6_spend (n : Nat) (k : Idx) : (s.spend n).getFp6 k = s.getFp6 k := rfl
@[simp] theorem State.getFp6_setB (b : Bool) (k : Idx) : (s.setB b).getFp6 k = s.getFp6 k := rfl
@[simp] theorem State.getFp6_setCmp (cmp : BitVec 2) (k : Idx) : (s.setCmp cmp).getFp6 k = s.getFp6 k := rfl
@[simp] theorem State.getFp6_counted (k : Idx) : (s.counted).getFp6 k = s.getFp6 k := rfl
@[simp] theorem State.getFp6_setPoint (g : CurveGroup) (i : Idx) (v : Point Fp) (k : Idx) :
    (s.setPoint g i v).getFp6 k = s.getFp6 k := by cases g <;> rfl
@[simp] theorem State.getSc_setFp (i : FpIdx) (v : Fp) (k : Idx) : (s.setFp i v).getSc k = s.getSc k := rfl
@[simp] theorem State.getSc_setFp3 (i : Idx) (v : CubicElt Fp) (k : Idx) : (s.setFp3 i v).getSc k = s.getSc k := rfl
@[simp] theorem State.getSc_setFp6 (i : Idx) (v : SexticElt Fp) (k : Idx) : (s.setFp6 i v).getSc k = s.getSc k := rfl
@[simp] theorem State.getSc_spend (n : Nat) (k : Idx) : (s.spend n).getSc k = s.getSc k := rfl
@[simp] theorem State.getSc_setB (b : Bool) (k : Idx) : (s.setB b).getSc k = s.getSc k := rfl
@[simp] theorem State.getSc_setCmp (cmp : BitVec 2) (k : Idx) : (s.setCmp cmp).getSc k = s.getSc k := rfl
@[simp] theorem State.getSc_counted (k : Idx) : (s.counted).getSc k = s.getSc k := rfl
@[simp] theorem State.getSc_setPoint (g : CurveGroup) (i : Idx) (v : Point Fp) (k : Idx) :
    (s.setPoint g i v).getSc k = s.getSc k := by cases g <;> rfl
@[simp] theorem State.getPoint_setFp (i : FpIdx) (v : Fp) (g : CurveGroup) (k : Idx) :
    (s.setFp i v).getPoint g k = s.getPoint g k := by cases g <;> rfl
@[simp] theorem State.getPoint_setFp3 (i : Idx) (v : CubicElt Fp) (g : CurveGroup) (k : Idx) :
    (s.setFp3 i v).getPoint g k = s.getPoint g k := by cases g <;> rfl
@[simp] theorem State.getPoint_setFp6 (i : Idx) (v : SexticElt Fp) (g : CurveGroup) (k : Idx) :
    (s.setFp6 i v).getPoint g k = s.getPoint g k := by cases g <;> rfl
@[simp] theorem State.getPoint_setSc (i : Idx) (v : Fp) (g : CurveGroup) (k : Idx) :
    (s.setSc i v).getPoint g k = s.getPoint g k := by cases g <;> rfl
@[simp] theorem State.getPoint_spend (n : Nat) (g : CurveGroup) (k : Idx) :
    (s.spend n).getPoint g k = s.getPoint g k := by cases g <;> rfl
@[simp] theorem State.getPoint_setB (b : Bool) (g : CurveGroup) (k : Idx) :
    (s.setB b).getPoint g k = s.getPoint g k := by cases g <;> rfl
@[simp] theorem State.getPoint_setCmp (cmp : BitVec 2) (g : CurveGroup) (k : Idx) :
    (s.setCmp cmp).getPoint g k = s.getPoint g k := by cases g <;> rfl
@[simp] theorem State.getPoint_counted (g : CurveGroup) (k : Idx) :
    (s.counted).getPoint g k = s.getPoint g k := by cases g <;> rfl

end Sys2Proof.Machine
end

