-- ==== Sys2Proof/Laws/Ops.lean ====
section
/-! SUPPORT. One lemma per shared operation that says everything it can answer; the later proofs cite it and do not
unfold the operation. -/
namespace Sys2Proof.Machine

variable (s : State)

/-! ### `FLAG` -/

@[simp] theorem flagB_withFlagB (f : BitVec 3) (b : Bool) : flagB (withFlagB f b) = b := by
  revert f b; decide

@[simp] theorem flagCmp_withFlagB (f : BitVec 3) (b : Bool) : flagCmp (withFlagB f b) = flagCmp f := by
  revert f b; decide

@[simp] theorem flagCmp_withFlagCmp (f : BitVec 3) (cmp : BitVec 2) : flagCmp (withFlagCmp f cmp) = cmp := by
  revert f cmp; decide

@[simp] theorem flagB_withFlagCmp (f : BitVec 3) (cmp : BitVec 2) : flagB (withFlagCmp f cmp) = flagB f := by
  revert f cmp; decide

theorem threeWay_ne (x y : Fp) : threeWay x y ≠ 0b10 := by
  unfold threeWay
  split
  · decide
  · split <;> decide

/-! ### Completion and error entry -/

@[simp] theorem complete_eq : complete s = .next s.counted := rfl

@[simp] theorem raise_eq (e : CoreError) (w : Word) : raise e w s = .next (errorEntry e w s) := by
  unfold raise errorEntry
  split <;> rfl

theorem errorCode_ne_zero (e : CoreError) : errorCode e ≠ 0 := by cases e <;> decide

/-! ### Drawn values -/

theorem spend_zero : s.spend 0 = s := rfl

/-- A drawn value is a member when the named one is. -/
theorem draw_mem {α : Type} {member : α → Bool} {named : α} (h : member named = true) (free : α) :
    member (draw member named free) = true := by
  unfold draw
  split <;> assumption

theorem putFp_eq (rd : FpIdx) (o : Option Fp) : ∃ v n, s.putFp rd o = (s.setFp rd v).spend n := by
  cases o with
  | none => exact ⟨_, 1, rfl⟩
  | some v => exact ⟨v, 0, rfl⟩

theorem putFp3_eq (rd : Idx) (o : Option (CubicElt Fp)) : ∃ v n, s.putFp3 rd o = (s.setFp3 rd v).spend n := by
  cases o with
  | none => exact ⟨_, 3, rfl⟩
  | some v => exact ⟨v, 0, rfl⟩

theorem putFp6_eq (rd : Idx) (o : Option (SexticElt Fp)) : ∃ v n, s.putFp6 rd o = (s.setFp6 rd v).spend n := by
  cases o with
  | none => exact ⟨_, 6, rfl⟩
  | some v => exact ⟨v, 0, rfl⟩

theorem putPoint_eq (g : CurveGroup) (rd : Idx) (o : Option (Point Fp)) :
    ∃ v n, s.putPoint g rd o = (s.setPoint g rd v).spend n := by
  cases o with
  | none => exact ⟨_, 3, rfl⟩
  | some v => exact ⟨v, 0, rfl⟩

theorem putClass_eq (g : CurveGroup) (rd : Idx) (o : Option (Point Nat)) :
    ∃ v, s.putClass g rd o = (s.setPoint g rd v).spend 3 := by
  cases o <;> exact ⟨_, rfl⟩

theorem putB_eq (o : Option Bool) : ∃ b n, s.putB o = (s.setB b).spend n := by
  cases o with
  | none => exact ⟨_, 1, rfl⟩
  | some b => exact ⟨b, 0, rfl⟩

@[simp] theorem inDomain_true {α : Type} (v : α) : inDomain true v = some v := rfl
@[simp] theorem inDomain_false {α : Type} (v : α) : inDomain false v = none := rfl

/-! ### The shapes of the field commands -/

theorem fpUnary_next (ok : Config → Fp → Bool) (f : Config → Fp → Fp) (rd ra : FpIdx) :
    ∃ v n, fpUnary ok f rd ra s = .next ((s.setFp rd v).spend n).counted := by
  obtain ⟨v, n, h⟩ := putFp_eq s rd (inDomain (ok s.cfg (s.getFp ra)) (f s.cfg (s.getFp ra)))
  exact ⟨v, n, by rw [fpUnary, complete_eq, h]⟩

theorem fpUnary_inDomain {ok : Config → Fp → Bool} (f : Config → Fp → Fp) (rd ra : FpIdx)
    (h : ok s.cfg (s.getFp ra) = true) : fpUnary ok f rd ra s = .next (s.setFp rd (f s.cfg (s.getFp ra))).counted := by
  rw [fpUnary, h]; rfl

theorem fpBinary_next (ok : Config → Fp → Bool) (f : Config → Fp → Fp → Fp) (rd ra rb : FpIdx) :
    ∃ v n, fpBinary ok f rd ra rb s = .next ((s.setFp rd v).spend n).counted := by
  obtain ⟨v, n, h⟩ := putFp_eq s rd (inDomain (ok s.cfg (s.getFp ra) && ok s.cfg (s.getFp rb))
    (f s.cfg (s.getFp ra) (s.getFp rb)))
  exact ⟨v, n, by rw [fpBinary, complete_eq, h]⟩

theorem fpBinary_inDomain {ok : Config → Fp → Bool} (f : Config → Fp → Fp → Fp) (rd ra rb : FpIdx)
    (ha : ok s.cfg (s.getFp ra) = true) (hb : ok s.cfg (s.getFp rb) = true) :
    fpBinary ok f rd ra rb s = .next (s.setFp rd (f s.cfg (s.getFp ra) (s.getFp rb))).counted := by
  rw [fpBinary, ha, hb]; rfl

theorem fpLazy_next (ok : Bool) (exact' named : Nat) (rd : FpIdx) :
    ∃ v, fpLazy ok exact' named rd s = .next ((s.setFp rd v).spend 1).counted := by
  cases ok <;> exact ⟨_, rfl⟩

theorem fp3Unary_next (ok : Config → Fp → Bool) (f : Config → CubicElt Fp → CubicElt Fp) (rd ra : Idx) :
    ∃ v n, fp3Unary ok f rd ra s = .next ((s.setFp3 rd v).spend n).counted := by
  obtain ⟨v, n, h⟩ := putFp3_eq s rd (inDomain ((s.getFp3 ra).all (ok s.cfg)) (f s.cfg (s.getFp3 ra)))
  exact ⟨v, n, by rw [fp3Unary, complete_eq, h]⟩

theorem fp3Unary_inDomain {ok : Config → Fp → Bool} (f : Config → CubicElt Fp → CubicElt Fp) (rd ra : Idx)
    (h : (s.getFp3 ra).all (ok s.cfg) = true) :
    fp3Unary ok f rd ra s = .next (s.setFp3 rd (f s.cfg (s.getFp3 ra))).counted := by
  rw [fp3Unary, h]; rfl

theorem fp3Binary_next (ok : Config → Fp → Bool) (f : Config → CubicElt Fp → CubicElt Fp → CubicElt Fp)
    (rd ra rb : Idx) : ∃ v n, fp3Binary ok f rd ra rb s = .next ((s.setFp3 rd v).spend n).counted := by
  obtain ⟨v, n, h⟩ := putFp3_eq s rd (inDomain ((s.getFp3 ra).all (ok s.cfg) && (s.getFp3 rb).all (ok s.cfg))
    (f s.cfg (s.getFp3 ra) (s.getFp3 rb)))
  exact ⟨v, n, by rw [fp3Binary, complete_eq, h]⟩

theorem fp3Binary_inDomain {ok : Config → Fp → Bool} (f : Config → CubicElt Fp → CubicElt Fp → CubicElt Fp)
    (rd ra rb : Idx) (ha : (s.getFp3 ra).all (ok s.cfg) = true) (hb : (s.getFp3 rb).all (ok s.cfg) = true) :
    fp3Binary ok f rd ra rb s = .next (s.setFp3 rd (f s.cfg (s.getFp3 ra) (s.getFp3 rb))).counted := by
  rw [fp3Binary, ha, hb]; rfl

theorem fp6Unary_next (ok : Config → Fp → Bool) (f : Config → SexticElt Fp → SexticElt Fp) (rd ra : Idx) :
    ∃ v n, fp6Unary ok f rd ra s = .next ((s.setFp6 rd v).spend n).counted := by
  obtain ⟨v, n, h⟩ := putFp6_eq s rd (inDomain ((s.getFp6 ra).all (ok s.cfg)) (f s.cfg (s.getFp6 ra)))
  exact ⟨v, n, by rw [fp6Unary, complete_eq, h]⟩

theorem fp6Unary_inDomain {ok : Config → Fp → Bool} (f : Config → SexticElt Fp → SexticElt Fp) (rd ra : Idx)
    (h : (s.getFp6 ra).all (ok s.cfg) = true) :
    fp6Unary ok f rd ra s = .next (s.setFp6 rd (f s.cfg (s.getFp6 ra))).counted := by
  rw [fp6Unary, h]; rfl

theorem fp6Binary_next (ok : Config → Fp → Bool) (f : Config → SexticElt Fp → SexticElt Fp → SexticElt Fp)
    (rd ra rb : Idx) : ∃ v n, fp6Binary ok f rd ra rb s = .next ((s.setFp6 rd v).spend n).counted := by
  obtain ⟨v, n, h⟩ := putFp6_eq s rd (inDomain ((s.getFp6 ra).all (ok s.cfg) && (s.getFp6 rb).all (ok s.cfg))
    (f s.cfg (s.getFp6 ra) (s.getFp6 rb)))
  exact ⟨v, n, by rw [fp6Binary, complete_eq, h]⟩

theorem fp6Binary_inDomain {ok : Config → Fp → Bool} (f : Config → SexticElt Fp → SexticElt Fp → SexticElt Fp)
    (rd ra rb : Idx) (ha : (s.getFp6 ra).all (ok s.cfg) = true) (hb : (s.getFp6 rb).all (ok s.cfg) = true) :
    fp6Binary ok f rd ra rb s = .next (s.setFp6 rd (f s.cfg (s.getFp6 ra) (s.getFp6 rb))).counted := by
  rw [fp6Binary, ha, hb]; rfl

theorem fp6Sparse_next (sparse : Nat → Nat → Nat → SexticElt Nat) (rd : Idx) (ra rb rc : FpIdx) :
    ∃ v n, fp6Sparse sparse rd ra rb rc s = .next ((s.setFp6 rd v).spend n).counted := by
  obtain ⟨v, n, h⟩ := putFp6_eq s rd (inDomain ((s.getFp6 rd).all (lazyOk s.cfg) && lazyOk s.cfg (s.getFp ra) &&
    lazyOk s.cfg (s.getFp rb) && lazyOk s.cfg (s.getFp rc))
    (s.cfg.enc6 (s.cfg.mul6 (s.cfg.dec6 (s.getFp6 rd)) (sparse (s.cfg.dec (s.getFp ra)) (s.cfg.dec (s.getFp rb))
      (s.cfg.dec (s.getFp rc))))))
  exact ⟨v, n, by rw [fp6Sparse, complete_eq, h]⟩

/-! ### Loads and stores -/

/-- What a load can answer: a range error, a format error, or what its decoder answers on the bytes. -/
theorem loadString_cases (w : Word) (ok : Nat → Bool) (f : List Byte → Result) :
    (s.cfg.dmemSize < s.dptr.toNat + s.dlen.toNat ∧ loadString w ok s f = .next (errorEntry .dmemRange w s)) ∨
    (s.dptr.toNat + s.dlen.toNat ≤ s.cfg.dmemSize ∧ ok s.dlen.toNat = false ∧
      loadString w ok s f = .next (errorEntry .formatError w s)) ∨
    (s.dptr.toNat + s.dlen.toNat ≤ s.cfg.dmemSize ∧ ok s.dlen.toNat = true ∧ loadString w ok s f = f s.loaded) := by
  unfold loadString
  split
  · exact .inl ⟨‹_›, raise_eq ..⟩
  · split
    · exact .inr (.inr ⟨by omega, ‹_›, rfl⟩)
    · exact .inr (.inl ⟨by omega, Bool.eq_false_iff.mpr ‹¬ok s.dlen.toNat = true›, raise_eq ..⟩)

/-- What a store can answer: a range error, or the string written at `DPTR`. -/
theorem storeString_cases (w : Word) (bytes : List Byte) :
    (s.cfg.dmemSize < s.dptr.toNat + bytes.length ∧ storeString w bytes s = .next (errorEntry .dmemRange w s)) ∨
    (s.dptr.toNat + bytes.length ≤ s.cfg.dmemSize ∧ storeString w bytes s =
      .next { s with dmem := memWrite s.dmem s.dptr.toNat bytes, cmdcnt := s.cmdcnt + 1 }) := by
  unfold storeString
  split
  · exact .inl ⟨‹_›, raise_eq ..⟩
  · exact .inr ⟨by omega, rfl⟩

@[simp] theorem bytesOf_length (n v : Nat) : (bytesOf n v).length = n := by
  induction n generalizing v with
  | zero => rfl
  | succ n ih => simp [bytesOf, ih]

@[simp] theorem fpBytes_length (x : Fp) : (fpBytes x).length = 96 := bytesOf_length 96 _
@[simp] theorem cubicBytes_length (t : CubicElt Fp) : (cubicBytes t).length = 288 := by simp [cubicBytes]
@[simp] theorem sexticBytes_length (t : SexticElt Fp) : (sexticBytes t).length = 576 := by simp [sexticBytes]

@[simp] theorem pointBytes_length (c : Config) (t : Point Fp) : (pointBytes c t).length = 192 := by
  unfold pointBytes
  split
  · exact List.length_replicate
  · rw [List.length_append, fpBytes_length, fpBytes_length]

/-! ### The shapes of the point commands -/

theorem pointAdd_next (g : CurveGroup) (rd ra rb : Idx) :
    ∃ v, pointAdd g rd ra rb s = .next ((s.setPoint g rd v).spend 3).counted := by
  obtain ⟨v, h⟩ := putClass_eq s g rd (inDomain (s.pointOk g ra && s.pointOk g rb)
    (s.cfg.addPoint (s.residues g ra) (s.residues g rb)))
  exact ⟨v, by rw [pointAdd, complete_eq, h]⟩

theorem pointDouble_next (g : CurveGroup) (rd ra : Idx) :
    ∃ v, pointDouble g rd ra s = .next ((s.setPoint g rd v).spend 3).counted := by
  obtain ⟨v, h⟩ := putClass_eq s g rd (inDomain (s.pointOk g ra) (s.cfg.double (s.residues g ra)))
  exact ⟨v, by rw [pointDouble, complete_eq, h]⟩

theorem pointSub_next (g : CurveGroup) (rd ra rb : Idx) :
    ∃ v, pointSub g rd ra rb s = .next ((s.setPoint g rd v).spend 3).counted := by
  obtain ⟨v, h⟩ := putClass_eq s g rd (inDomain (s.pointOk g ra && s.pointOk g rb)
    (s.cfg.addPoint (s.residues g ra) (s.cfg.negPoint (s.residues g rb))))
  exact ⟨v, by rw [pointSub, complete_eq, h]⟩

theorem pointMulSc_next (g : CurveGroup) (rd ra rb : Idx) :
    ∃ v, pointMulSc g rd ra rb s = .next ((s.setPoint g rd v).spend 3).counted := by
  obtain ⟨v, h⟩ := putClass_eq s g rd (inDomain (s.pointOk g ra)
    (s.cfg.mulPoint (s.getSc rb).toNat (s.residues g ra)))
  exact ⟨v, by rw [pointMulSc, complete_eq, h]⟩

theorem pointClrCof_next (g : CurveGroup) (rd ra : Idx) :
    ∃ v, pointClrCof g rd ra s = .next ((s.setPoint g rd v).spend 3).counted := by
  obtain ⟨v, h⟩ := putClass_eq s g rd (inDomain (s.pointOk g ra) (s.cfg.mulPoint (cofactor s.cfg g) (s.residues g ra)))
  exact ⟨v, by rw [pointClrCof, complete_eq, h]⟩

/-- A point drawn from a class (R227): some member of it, when the named one is a member. -/
theorem drawPoint_eq (g : CurveGroup) (rd : Idx) {t : Point Nat} (h : inClass s.cfg t (t.map s.cfg.enc) = true) :
    ∃ v, inClass s.cfg t v = true ∧ s.drawPoint g rd t = (s.setPoint g rd v).spend 3 :=
  ⟨_, draw_mem h _, rfl⟩

theorem pointAdd_inDomain (g : CurveGroup) (rd ra rb : Idx) (h : (s.pointOk g ra && s.pointOk g rb) = true) :
    pointAdd g rd ra rb s = .next (s.drawPoint g rd (s.cfg.addPoint (s.residues g ra) (s.residues g rb))).counted := by
  rw [pointAdd, h]; rfl

theorem pointDouble_inDomain (g : CurveGroup) (rd ra : Idx) (h : s.pointOk g ra = true) :
    pointDouble g rd ra s = .next (s.drawPoint g rd (s.cfg.double (s.residues g ra))).counted := by
  rw [pointDouble, h]; rfl

theorem pointSub_inDomain (g : CurveGroup) (rd ra rb : Idx) (h : (s.pointOk g ra && s.pointOk g rb) = true) :
    pointSub g rd ra rb s =
      .next (s.drawPoint g rd (s.cfg.addPoint (s.residues g ra) (s.cfg.negPoint (s.residues g rb)))).counted := by
  rw [pointSub, h]; rfl

theorem pointMulSc_inDomain (g : CurveGroup) (rd ra rb : Idx) (h : s.pointOk g ra = true) :
    pointMulSc g rd ra rb s =
      .next (s.drawPoint g rd (s.cfg.mulPoint (s.getSc rb).toNat (s.residues g ra))).counted := by
  rw [pointMulSc, h]; rfl

theorem pointClrCof_inDomain (g : CurveGroup) (rd ra : Idx) (h : s.pointOk g ra = true) :
    pointClrCof g rd ra s =
      .next (s.drawPoint g rd (s.cfg.mulPoint (cofactor s.cfg g) (s.residues g ra))).counted := by
  rw [pointClrCof, h]; rfl

/-- The terms of a multi-scalar multiplication: the scalar and the residues of the point. -/
theorem pointMsm_inDomain (w : Word) (g : CurveGroup) (rd ra rb : Idx) (imm8 : BitVec 8)
    (hw : msmOperands ra rb imm8 = none)
    (h : ((List.range imm8.toNat).map (fun k => ((s.getSc (nthAfter rb k)).toNat, nthAfter ra k))).all
      (fun t => s.pointOk g t.2) = true)
    (hs : ((List.range imm8.toNat).map (fun k => ((s.getSc (nthAfter rb k)).toNat, nthAfter ra k))).all
      (fun t => decide (bitLen t.1 ≤ bitLen s.cfg.rOrd)) = true) :
    pointMsm w g rd ra rb imm8 s = .next (s.drawPoint g rd (s.cfg.sumMultiples
      (((List.range imm8.toNat).map (fun k => ((s.getSc (nthAfter rb k)).toNat, nthAfter ra k))).map
        (fun t => (t.1, s.residues g t.2))))).counted := by
  simp only [pointMsm, hw, Option.isSome_none, Bool.false_eq_true, if_false, h, hs, if_true, complete_eq]

theorem pointNeg_next (g : CurveGroup) (rd ra : Idx) :
    ∃ v n, pointNeg g rd ra s = .next ((s.setPoint g rd v).spend n).counted := by
  obtain ⟨v, n, h⟩ := putPoint_eq s g rd (inDomain ((s.getPoint g ra).all (valid s.cfg))
    ⟨(s.getPoint g ra).x, rawNeg s.cfg (s.getPoint g ra).y, (s.getPoint g ra).z⟩)
  exact ⟨v, n, by rw [pointNeg, complete_eq, h]⟩

theorem pointAffine_next (g : CurveGroup) (rd ra : Idx) :
    ∃ v n, pointAffine g rd ra s = .next ((s.setPoint g rd v).spend n).counted := by
  obtain ⟨v, n, h⟩ := putPoint_eq s g rd (inDomain (s.pointOk g ra) ((s.cfg.affine (s.residues g ra)).map s.cfg.enc))
  exact ⟨v, n, by rw [pointAffine, complete_eq, h]⟩

/-- What a point load can answer. -/
theorem pointLd_cases (w : Word) (g : CurveGroup) (rd : Idx) :
    (∃ e, pointLd w g rd s = .next (errorEntry e w s)) ∨
    (∃ v, pointLd w g rd s = .next (s.setPoint g rd v).counted) := by
  unfold pointLd
  rcases loadString_cases s w (· == 192) _ with ⟨-, h⟩ | ⟨-, -, h⟩ | ⟨-, -, h⟩ <;> rw [h]
  · exact .inl ⟨_, rfl⟩
  · exact .inl ⟨_, rfl⟩
  · split
    · exact .inl ⟨_, raise_eq ..⟩
    · exact .inr ⟨_, rfl⟩

/-- What a point store can answer. -/
theorem pointSt_cases (w : Word) (g : CurveGroup) (ra : Idx) :
    (s.cfg.dmemSize < s.dptr.toNat + 192 ∧ pointSt w g ra s = .next (errorEntry .dmemRange w s)) ∨
    (s.dptr.toNat + 192 ≤ s.cfg.dmemSize ∧ ∃ (bytes : List Byte) (n : Nat), bytes.length = 192 ∧ pointSt w g ra s =
      .next { s with dmem := memWrite s.dmem s.dptr.toNat bytes, draws := s.draws + n, cmdcnt := s.cmdcnt + 1 }) := by
  unfold pointSt
  split
  · rcases storeString_cases s w (pointBytes s.cfg (s.getPoint g ra)) with ⟨h, e⟩ | ⟨h, e⟩ <;>
      rw [pointBytes_length] at h
    · exact .inl ⟨h, e⟩
    · exact .inr ⟨h, _, 0, pointBytes_length .., e⟩
  · split
    · exact .inl ⟨‹_›, raise_eq ..⟩
    · refine .inr ⟨by omega, fpBytes (s.free 0) ++ fpBytes (s.free 1), 2, by simp, ?_⟩
      rcases storeString_cases (s.spend 2) w (fpBytes (s.free 0) ++ fpBytes (s.free 1)) with ⟨h, e⟩ | ⟨h, e⟩
      · simp at h; omega
      · exact e

/-- What a multi-scalar multiplication can answer. -/
theorem pointMsm_cases (w : Word) (g : CurveGroup) (rd ra rb : Idx) (imm8 : BitVec 8) :
    (msmOperands ra rb imm8 ≠ none ∧ pointMsm w g rd ra rb imm8 s = .next (errorEntry .illegalCommand w s)) ∨
    (msmOperands ra rb imm8 = none ∧
      ∃ v, pointMsm w g rd ra rb imm8 s = .next ((s.setPoint g rd v).spend 3).counted) := by
  unfold pointMsm
  by_cases h : msmOperands ra rb imm8 = none
  · refine .inr ⟨h, ?_⟩
    simp only [h, Option.isSome_none, Bool.false_eq_true, if_false]
    split
    · split <;> exact ⟨_, rfl⟩
    · exact ⟨_, rfl⟩
  · exact .inl ⟨h, by simp [Option.isSome_iff_ne_none.mpr h]⟩

/-- What queueing a pair can answer. -/
theorem queue_cases (w : Word) (side : Fp → Fp) (ra rb : Idx) :
    (((s.getPoint .g1 ra).z = 0 ∨ (s.getPoint .g2 rb).z = 0) ∧ queue w side ra rb s = .next s.counted) ∨
    (((s.getPoint .g1 ra).z ≠ 0 ∧ (s.getPoint .g2 rb).z ≠ 0) ∧ s.pairs.length = s.cfg.maxPairs ∧
      queue w side ra rb s = .next (errorEntry .pairListFull w s)) ∨
    (((s.getPoint .g1 ra).z ≠ 0 ∧ (s.getPoint .g2 rb).z ≠ 0) ∧ s.pairs.length ≠ s.cfg.maxPairs ∧
      ∃ k n, (queuedPair s side ra rb = some k ∧ n = 0 ∨ queuedPair s side ra rb = none ∧ k = s.freePair ∧ n = 4) ∧
        queue w side ra rb s = .next (State.spend { s with pairs := s.pairs ++ [k] } n).counted) := by
  unfold queue
  split
  · exact .inl ⟨‹_›, rfl⟩
  · rename_i hz
    rw [not_or] at hz
    split
    · exact .inr (.inl ⟨hz, ‹_›, raise_eq ..⟩)
    · refine .inr (.inr ⟨hz, ‹_›, ?_⟩)
      split
      · exact ⟨_, 0, .inl ⟨‹_›, rfl⟩, rfl⟩
      · exact ⟨_, 4, .inr ⟨‹_›, rfl, rfl⟩, rfl⟩

end Sys2Proof.Machine
end

