-- ==== Sys2Proof/Laws/PerInstr.lean ====
section
/-! SUPPORT. Per command: its word matches, under the mask, a row of the opcode map that reads the command back. -/
namespace Sys2Proof.Laws.Encoding

/-- The word of a command is accepted by a row of the opcode map, and that row reads the command from it (R89, R90). -/
def Statement (i : Instr) : Prop :=
  ∃ row ∈ opcodeMap, row.opcode = opcodeOf (encode i) ∧ encode i &&& row.mask = row.pattern ∧ row.make (encode i) = i

/-- The statement from the row and the word. -/
theorem statement_of {i : Instr} {op : BitVec 8} {mask w : Word} {make : Word → Instr} (hw : encode i = w)
    (h : ⟨op, mask, make⟩ ∈ opcodeMap) (ho : opcodeOf w = op) (hm : w &&& mask = op ++ (0 : BitVec 24))
    (hr : make w = i) : Statement i := ⟨_, h, by rw [hw, ho], by rw [hw]; exact hm, by rw [hw]; exact hr⟩

/-- A word of format R under a mask that covers its opcode and accepts its other fields. -/
theorem mask_R {op imm8 : BitVec 8} {rd ra rb rc : BitVec 4} {mask : Word} (m1 m2 m3 m4 : BitVec 4) (m5 : BitVec 8)
    (hm : mask = wordR (BitVec.allOnes 8) m1 m2 m3 m4 m5) (h1 : rd &&& m1 = 0) (h2 : ra &&& m2 = 0)
    (h3 : rb &&& m3 = 0) (h4 : rc &&& m4 = 0) (h5 : imm8 &&& m5 = 0) :
    wordR op rd ra rb rc imm8 &&& mask = op ++ (0 : BitVec 24) := by
  rw [hm, wordR_and, h1, h2, h3, h4, h5, BitVec.and_allOnes]
  apply BitVec.eq_of_toNat_eq
  rw [wordR_toNat, BitVec.toNat_append, ← Nat.shiftLeft_add_eq_or_of_lt (BitVec.isLt _), Nat.shiftLeft_eq]
  simp

theorem mem_system {r : OpcodeRow} (h : r ∈ systemRows) : r ∈ opcodeMap := by
  simp only [opcodeMap, List.mem_append]; tauto

theorem mem_fp {r : OpcodeRow} (h : r ∈ fpRows) : r ∈ opcodeMap := by simp only [opcodeMap, List.mem_append]; tauto

theorem mem_fp3 {r : OpcodeRow} (h : r ∈ fp3Rows) : r ∈ opcodeMap := by simp only [opcodeMap, List.mem_append]; tauto

theorem mem_fp6 {r : OpcodeRow} (h : r ∈ fp6Rows) : r ∈ opcodeMap := by simp only [opcodeMap, List.mem_append]; tauto

theorem mem_g1 {r : OpcodeRow} (h : r ∈ g1Rows) : r ∈ opcodeMap := by simp only [opcodeMap, List.mem_append]; tauto

theorem mem_g1Scalar {r : OpcodeRow} (h : r ∈ g1ScalarRows) : r ∈ opcodeMap := by
  simp only [opcodeMap, List.mem_append]; tauto

theorem mem_g2 {r : OpcodeRow} (h : r ∈ g2Rows) : r ∈ opcodeMap := by simp only [opcodeMap, List.mem_append]; tauto

theorem mem_g2Scalar {r : OpcodeRow} (h : r ∈ g2ScalarRows) : r ∈ opcodeMap := by
  simp only [opcodeMap, List.mem_append]; tauto

theorem mem_pairing {r : OpcodeRow} (h : r ∈ pairingRows) : r ∈ opcodeMap := by
  simp only [opcodeMap, List.mem_append]; tauto

theorem nop : Statement (.nop) :=
  statement_of rfl (mem_system (List.mem_of_getElem? (i := 0) rfl)) opcodeOf_wordS
    rfl
    rfl

theorem setPtr (imm24 : BitVec 24) : Statement (.setPtr imm24) :=
  statement_of rfl (mem_system (List.mem_of_getElem? (i := 1) rfl)) opcodeOf_wordS
    ((wordS_and _ (BitVec.allOnes 8) _ 0).trans (congrArg₂ wordS BitVec.and_allOnes BitVec.and_zero))
    (congrArg Instr.setPtr imm24Of_wordS)

theorem setLen (imm24 : BitVec 24) : Statement (.setLen imm24) :=
  statement_of rfl (mem_system (List.mem_of_getElem? (i := 2) rfl)) opcodeOf_wordS
    ((wordS_and _ (BitVec.allOnes 8) _ 0).trans (congrArg₂ wordS BitVec.and_allOnes BitVec.and_zero))
    (congrArg Instr.setLen imm24Of_wordS)

theorem clrErr : Statement (.clrErr) :=
  statement_of rfl (mem_system (List.mem_of_getElem? (i := 3) rfl)) opcodeOf_wordS
    rfl
    rfl

theorem scLdi (rd : Idx) (imm20 : BitVec 20) : Statement (.scLdi rd imm20) :=
  statement_of (w := wordI 0x04 (field rd) imm20) rfl (mem_system (List.mem_of_getElem? (i := 4) rfl)) opcodeOf_wordI
    ((wordI_and _ (BitVec.allOnes 8) (field rd) 8 imm20 0).trans (by
      show wordI (4 &&& BitVec.allOnes 8) (field rd &&& 8#4) (imm20 &&& 0#20) = _
      rw [field_and_eight, BitVec.and_zero, BitVec.and_allOnes]; rfl))
    (by
      show Instr.scLdi (idx (rdOf _)) (imm20Of _) = _
      simp only [rdOf_wordI, imm20Of_wordI, idx_field])

theorem scLd (rd : Idx) : Statement (.scLd rd) :=
  statement_of (w := wordR 0x05 (field rd) 0 0 0 0) rfl (mem_system (List.mem_of_getElem? (i := 5) rfl))
      opcodeOf_wordR
    (mask_R 8 15 15 15 255 rfl (field_and_eight rd) BitVec.zero_and BitVec.zero_and BitVec.zero_and BitVec.zero_and)
    (by
      show Instr.scLd (idx (rdOf _)) = _
      simp only [rdOf_wordR, idx_field])

theorem scSt (ra : Idx) : Statement (.scSt ra) :=
  statement_of (w := wordR 0x06 0 (field ra) 0 0 0) rfl (mem_system (List.mem_of_getElem? (i := 6) rfl))
      opcodeOf_wordR
    (mask_R 15 8 15 15 255 rfl BitVec.zero_and (field_and_eight ra) BitVec.zero_and BitVec.zero_and BitVec.zero_and)
    (by
      show Instr.scSt (idx (raOf _)) = _
      simp only [raOf_wordR, idx_field])

theorem scMov (rd : Idx) (ra : Idx) : Statement (.scMov rd ra) :=
  statement_of (w := wordR 0x07 (field rd) (field ra) 0 0 0) rfl (mem_system (List.mem_of_getElem? (i := 7) rfl))
      opcodeOf_wordR
    (mask_R 8 8 15 15 255 rfl (field_and_eight rd) (field_and_eight ra) BitVec.zero_and BitVec.zero_and
      BitVec.zero_and)
    (by
      show Instr.scMov (idx (rdOf _)) (idx (raOf _)) = _
      simp only [rdOf_wordR, idx_field, raOf_wordR])

theorem fpZero (rd : FpIdx) : Statement (.fpZero rd) :=
  statement_of (w := wordR 0x10 (fpField rd) 0 0 0 0) rfl (mem_fp (List.mem_of_getElem? (i := 0) rfl)) opcodeOf_wordR
    (mask_R 0 15 15 15 255 rfl BitVec.and_zero BitVec.zero_and BitVec.zero_and BitVec.zero_and BitVec.zero_and)
    (by
      show Instr.fpZero (fpIdx (rdOf _)) = _
      simp only [rdOf_wordR, fpIdx_fpField])

theorem fpOne (rd : FpIdx) : Statement (.fpOne rd) :=
  statement_of (w := wordR 0x11 (fpField rd) 0 0 0 0) rfl (mem_fp (List.mem_of_getElem? (i := 1) rfl)) opcodeOf_wordR
    (mask_R 0 15 15 15 255 rfl BitVec.and_zero BitVec.zero_and BitVec.zero_and BitVec.zero_and BitVec.zero_and)
    (by
      show Instr.fpOne (fpIdx (rdOf _)) = _
      simp only [rdOf_wordR, fpIdx_fpField])

theorem fpModulus (rd : FpIdx) : Statement (.fpModulus rd) :=
  statement_of (w := wordR 0x12 (fpField rd) 0 0 0 0) rfl (mem_fp (List.mem_of_getElem? (i := 2) rfl)) opcodeOf_wordR
    (mask_R 0 15 15 15 255 rfl BitVec.and_zero BitVec.zero_and BitVec.zero_and BitVec.zero_and BitVec.zero_and)
    (by
      show Instr.fpModulus (fpIdx (rdOf _)) = _
      simp only [rdOf_wordR, fpIdx_fpField])

theorem fpMov (rd : FpIdx) (ra : FpIdx) : Statement (.fpMov rd ra) :=
  statement_of (w := wordR 0x13 (fpField rd) (fpField ra) 0 0 0) rfl (mem_fp (List.mem_of_getElem? (i := 3) rfl))
      opcodeOf_wordR
    (mask_R 0 0 15 15 255 rfl BitVec.and_zero BitVec.and_zero BitVec.zero_and BitVec.zero_and BitVec.zero_and)
    (by
      show Instr.fpMov (fpIdx (rdOf _)) (fpIdx (raOf _)) = _
      simp only [rdOf_wordR, fpIdx_fpField, raOf_wordR])

theorem fpLd (rd : FpIdx) : Statement (.fpLd rd) :=
  statement_of (w := wordR 0x14 (fpField rd) 0 0 0 0) rfl (mem_fp (List.mem_of_getElem? (i := 4) rfl)) opcodeOf_wordR
    (mask_R 0 15 15 15 255 rfl BitVec.and_zero BitVec.zero_and BitVec.zero_and BitVec.zero_and BitVec.zero_and)
    (by
      show Instr.fpLd (fpIdx (rdOf _)) = _
      simp only [rdOf_wordR, fpIdx_fpField])

theorem fpSt (ra : FpIdx) : Statement (.fpSt ra) :=
  statement_of (w := wordR 0x15 0 (fpField ra) 0 0 0) rfl (mem_fp (List.mem_of_getElem? (i := 5) rfl)) opcodeOf_wordR
    (mask_R 15 0 15 15 255 rfl BitVec.zero_and BitVec.and_zero BitVec.zero_and BitVec.zero_and BitVec.zero_and)
    (by
      show Instr.fpSt (fpIdx (raOf _)) = _
      simp only [raOf_wordR, fpIdx_fpField])

theorem fpFromSc (rd : FpIdx) (ra : Idx) : Statement (.fpFromSc rd ra) :=
  statement_of (w := wordR 0x16 (fpField rd) (field ra) 0 0 0) rfl (mem_fp (List.mem_of_getElem? (i := 6) rfl))
      opcodeOf_wordR
    (mask_R 0 8 15 15 255 rfl BitVec.and_zero (field_and_eight ra) BitVec.zero_and BitVec.zero_and BitVec.zero_and)
    (by
      show Instr.fpFromSc (fpIdx (rdOf _)) (idx (raOf _)) = _
      simp only [rdOf_wordR, fpIdx_fpField, raOf_wordR, idx_field])

theorem fpToSc (rd : Idx) (ra : FpIdx) : Statement (.fpToSc rd ra) :=
  statement_of (w := wordR 0x17 (field rd) (fpField ra) 0 0 0) rfl (mem_fp (List.mem_of_getElem? (i := 7) rfl))
      opcodeOf_wordR
    (mask_R 8 0 15 15 255 rfl (field_and_eight rd) BitVec.and_zero BitVec.zero_and BitVec.zero_and BitVec.zero_and)
    (by
      show Instr.fpToSc (idx (rdOf _)) (fpIdx (raOf _)) = _
      simp only [rdOf_wordR, idx_field, raOf_wordR, fpIdx_fpField])

theorem fpToMont (rd : FpIdx) (ra : FpIdx) : Statement (.fpToMont rd ra) :=
  statement_of (w := wordR 0x18 (fpField rd) (fpField ra) 0 0 0) rfl (mem_fp (List.mem_of_getElem? (i := 8) rfl))
      opcodeOf_wordR
    (mask_R 0 0 15 15 255 rfl BitVec.and_zero BitVec.and_zero BitVec.zero_and BitVec.zero_and BitVec.zero_and)
    (by
      show Instr.fpToMont (fpIdx (rdOf _)) (fpIdx (raOf _)) = _
      simp only [rdOf_wordR, fpIdx_fpField, raOf_wordR])

theorem fpFromMont (rd : FpIdx) (ra : FpIdx) : Statement (.fpFromMont rd ra) :=
  statement_of (w := wordR 0x19 (fpField rd) (fpField ra) 0 0 0) rfl (mem_fp (List.mem_of_getElem? (i := 9) rfl))
      opcodeOf_wordR
    (mask_R 0 0 15 15 255 rfl BitVec.and_zero BitVec.and_zero BitVec.zero_and BitVec.zero_and BitVec.zero_and)
    (by
      show Instr.fpFromMont (fpIdx (rdOf _)) (fpIdx (raOf _)) = _
      simp only [rdOf_wordR, fpIdx_fpField, raOf_wordR])

theorem fpAdd (rd : FpIdx) (ra : FpIdx) (rb : FpIdx) : Statement (.fpAdd rd ra rb) :=
  statement_of (w := wordR 0x1A (fpField rd) (fpField ra) (fpField rb) 0 0) rfl (mem_fp (List.mem_of_getElem? (i :=
      10) rfl)) opcodeOf_wordR
    (mask_R 0 0 0 15 255 rfl BitVec.and_zero BitVec.and_zero BitVec.and_zero BitVec.zero_and BitVec.zero_and)
    (by
      show Instr.fpAdd (fpIdx (rdOf _)) (fpIdx (raOf _)) (fpIdx (rbOf _)) = _
      simp only [rdOf_wordR, fpIdx_fpField, raOf_wordR, rbOf_wordR])

theorem fpSub (rd : FpIdx) (ra : FpIdx) (rb : FpIdx) : Statement (.fpSub rd ra rb) :=
  statement_of (w := wordR 0x1B (fpField rd) (fpField ra) (fpField rb) 0 0) rfl (mem_fp (List.mem_of_getElem? (i :=
      11) rfl)) opcodeOf_wordR
    (mask_R 0 0 0 15 255 rfl BitVec.and_zero BitVec.and_zero BitVec.and_zero BitVec.zero_and BitVec.zero_and)
    (by
      show Instr.fpSub (fpIdx (rdOf _)) (fpIdx (raOf _)) (fpIdx (rbOf _)) = _
      simp only [rdOf_wordR, fpIdx_fpField, raOf_wordR, rbOf_wordR])

theorem fpDouble (rd : FpIdx) (ra : FpIdx) : Statement (.fpDouble rd ra) :=
  statement_of (w := wordR 0x1C (fpField rd) (fpField ra) 0 0 0) rfl (mem_fp (List.mem_of_getElem? (i := 12) rfl))
      opcodeOf_wordR
    (mask_R 0 0 15 15 255 rfl BitVec.and_zero BitVec.and_zero BitVec.zero_and BitVec.zero_and BitVec.zero_and)
    (by
      show Instr.fpDouble (fpIdx (rdOf _)) (fpIdx (raOf _)) = _
      simp only [rdOf_wordR, fpIdx_fpField, raOf_wordR])

theorem fpNeg (rd : FpIdx) (ra : FpIdx) : Statement (.fpNeg rd ra) :=
  statement_of (w := wordR 0x1D (fpField rd) (fpField ra) 0 0 0) rfl (mem_fp (List.mem_of_getElem? (i := 13) rfl))
      opcodeOf_wordR
    (mask_R 0 0 15 15 255 rfl BitVec.and_zero BitVec.and_zero BitVec.zero_and BitVec.zero_and BitVec.zero_and)
    (by
      show Instr.fpNeg (fpIdx (rdOf _)) (fpIdx (raOf _)) = _
      simp only [rdOf_wordR, fpIdx_fpField, raOf_wordR])

theorem fpLAdd (rd : FpIdx) (ra : FpIdx) (rb : FpIdx) : Statement (.fpLAdd rd ra rb) :=
  statement_of (w := wordR 0x1E (fpField rd) (fpField ra) (fpField rb) 0 0) rfl (mem_fp (List.mem_of_getElem? (i :=
      14) rfl)) opcodeOf_wordR
    (mask_R 0 0 0 15 255 rfl BitVec.and_zero BitVec.and_zero BitVec.and_zero BitVec.zero_and BitVec.zero_and)
    (by
      show Instr.fpLAdd (fpIdx (rdOf _)) (fpIdx (raOf _)) (fpIdx (rbOf _)) = _
      simp only [rdOf_wordR, fpIdx_fpField, raOf_wordR, rbOf_wordR])

theorem fpLDouble (rd : FpIdx) (ra : FpIdx) : Statement (.fpLDouble rd ra) :=
  statement_of (w := wordR 0x1F (fpField rd) (fpField ra) 0 0 0) rfl (mem_fp (List.mem_of_getElem? (i := 15) rfl))
      opcodeOf_wordR
    (mask_R 0 0 15 15 255 rfl BitVec.and_zero BitVec.and_zero BitVec.zero_and BitVec.zero_and BitVec.zero_and)
    (by
      show Instr.fpLDouble (fpIdx (rdOf _)) (fpIdx (raOf _)) = _
      simp only [rdOf_wordR, fpIdx_fpField, raOf_wordR])

theorem fpLSub (rd : FpIdx) (ra : FpIdx) (rb : FpIdx) : Statement (.fpLSub rd ra rb) :=
  statement_of (w := wordR 0x20 (fpField rd) (fpField ra) (fpField rb) 0 0) rfl (mem_fp (List.mem_of_getElem? (i :=
      16) rfl)) opcodeOf_wordR
    (mask_R 0 0 0 15 255 rfl BitVec.and_zero BitVec.and_zero BitVec.and_zero BitVec.zero_and BitVec.zero_and)
    (by
      show Instr.fpLSub (fpIdx (rdOf _)) (fpIdx (raOf _)) (fpIdx (rbOf _)) = _
      simp only [rdOf_wordR, fpIdx_fpField, raOf_wordR, rbOf_wordR])

theorem fpMul (rd : FpIdx) (ra : FpIdx) (rb : FpIdx) : Statement (.fpMul rd ra rb) :=
  statement_of (w := wordR 0x21 (fpField rd) (fpField ra) (fpField rb) 0 0) rfl (mem_fp (List.mem_of_getElem? (i :=
      17) rfl)) opcodeOf_wordR
    (mask_R 0 0 0 15 255 rfl BitVec.and_zero BitVec.and_zero BitVec.and_zero BitVec.zero_and BitVec.zero_and)
    (by
      show Instr.fpMul (fpIdx (rdOf _)) (fpIdx (raOf _)) (fpIdx (rbOf _)) = _
      simp only [rdOf_wordR, fpIdx_fpField, raOf_wordR, rbOf_wordR])

theorem fpSquare (rd : FpIdx) (ra : FpIdx) : Statement (.fpSquare rd ra) :=
  statement_of (w := wordR 0x22 (fpField rd) (fpField ra) 0 0 0) rfl (mem_fp (List.mem_of_getElem? (i := 18) rfl))
      opcodeOf_wordR
    (mask_R 0 0 15 15 255 rfl BitVec.and_zero BitVec.and_zero BitVec.zero_and BitVec.zero_and BitVec.zero_and)
    (by
      show Instr.fpSquare (fpIdx (rdOf _)) (fpIdx (raOf _)) = _
      simp only [rdOf_wordR, fpIdx_fpField, raOf_wordR])

theorem fpInv (rd : FpIdx) (ra : FpIdx) : Statement (.fpInv rd ra) :=
  statement_of (w := wordR 0x23 (fpField rd) (fpField ra) 0 0 0) rfl (mem_fp (List.mem_of_getElem? (i := 19) rfl))
      opcodeOf_wordR
    (mask_R 0 0 15 15 255 rfl BitVec.and_zero BitVec.and_zero BitVec.zero_and BitVec.zero_and BitVec.zero_and)
    (by
      show Instr.fpInv (fpIdx (rdOf _)) (fpIdx (raOf _)) = _
      simp only [rdOf_wordR, fpIdx_fpField, raOf_wordR])

theorem fpExp (rd : FpIdx) (ra : FpIdx) (rb : Idx) : Statement (.fpExp rd ra rb) :=
  statement_of (w := wordR 0x24 (fpField rd) (fpField ra) (field rb) 0 0) rfl (mem_fp (List.mem_of_getElem? (i := 20)
      rfl)) opcodeOf_wordR
    (mask_R 0 0 8 15 255 rfl BitVec.and_zero BitVec.and_zero (field_and_eight rb) BitVec.zero_and BitVec.zero_and)
    (by
      show Instr.fpExp (fpIdx (rdOf _)) (fpIdx (raOf _)) (idx (rbOf _)) = _
      simp only [rdOf_wordR, fpIdx_fpField, raOf_wordR, rbOf_wordR, idx_field])

theorem fpSqrt (rd : FpIdx) (ra : FpIdx) : Statement (.fpSqrt rd ra) :=
  statement_of (w := wordR 0x25 (fpField rd) (fpField ra) 0 0 0) rfl (mem_fp (List.mem_of_getElem? (i := 21) rfl))
      opcodeOf_wordR
    (mask_R 0 0 15 15 255 rfl BitVec.and_zero BitVec.and_zero BitVec.zero_and BitVec.zero_and BitVec.zero_and)
    (by
      show Instr.fpSqrt (fpIdx (rdOf _)) (fpIdx (raOf _)) = _
      simp only [rdOf_wordR, fpIdx_fpField, raOf_wordR])

theorem fpIsQnr (ra : FpIdx) : Statement (.fpIsQnr ra) :=
  statement_of (w := wordR 0x26 0 (fpField ra) 0 0 0) rfl (mem_fp (List.mem_of_getElem? (i := 22) rfl)) opcodeOf_wordR
    (mask_R 15 0 15 15 255 rfl BitVec.zero_and BitVec.and_zero BitVec.zero_and BitVec.zero_and BitVec.zero_and)
    (by
      show Instr.fpIsQnr (fpIdx (raOf _)) = _
      simp only [raOf_wordR, fpIdx_fpField])

theorem fpMulNr (rd : FpIdx) (ra : FpIdx) : Statement (.fpMulNr rd ra) :=
  statement_of (w := wordR 0x27 (fpField rd) (fpField ra) 0 0 0) rfl (mem_fp (List.mem_of_getElem? (i := 23) rfl))
      opcodeOf_wordR
    (mask_R 0 0 15 15 255 rfl BitVec.and_zero BitVec.and_zero BitVec.zero_and BitVec.zero_and BitVec.zero_and)
    (by
      show Instr.fpMulNr (fpIdx (rdOf _)) (fpIdx (raOf _)) = _
      simp only [rdOf_wordR, fpIdx_fpField, raOf_wordR])

theorem fpCmp (ra : FpIdx) (rb : FpIdx) : Statement (.fpCmp ra rb) :=
  statement_of (w := wordR 0x28 0 (fpField ra) (fpField rb) 0 0) rfl (mem_fp (List.mem_of_getElem? (i := 24) rfl))
      opcodeOf_wordR
    (mask_R 15 0 0 15 255 rfl BitVec.zero_and BitVec.and_zero BitVec.and_zero BitVec.zero_and BitVec.zero_and)
    (by
      show Instr.fpCmp (fpIdx (raOf _)) (fpIdx (rbOf _)) = _
      simp only [raOf_wordR, fpIdx_fpField, rbOf_wordR])

theorem fpEq (ra : FpIdx) (rb : FpIdx) : Statement (.fpEq ra rb) :=
  statement_of (w := wordR 0x29 0 (fpField ra) (fpField rb) 0 0) rfl (mem_fp (List.mem_of_getElem? (i := 25) rfl))
      opcodeOf_wordR
    (mask_R 15 0 0 15 255 rfl BitVec.zero_and BitVec.and_zero BitVec.and_zero BitVec.zero_and BitVec.zero_and)
    (by
      show Instr.fpEq (fpIdx (raOf _)) (fpIdx (rbOf _)) = _
      simp only [raOf_wordR, fpIdx_fpField, rbOf_wordR])

theorem fpIsZero (ra : FpIdx) : Statement (.fpIsZero ra) :=
  statement_of (w := wordR 0x2A 0 (fpField ra) 0 0 0) rfl (mem_fp (List.mem_of_getElem? (i := 26) rfl)) opcodeOf_wordR
    (mask_R 15 0 15 15 255 rfl BitVec.zero_and BitVec.and_zero BitVec.zero_and BitVec.zero_and BitVec.zero_and)
    (by
      show Instr.fpIsZero (fpIdx (raOf _)) = _
      simp only [raOf_wordR, fpIdx_fpField])

theorem fpIsOne (ra : FpIdx) : Statement (.fpIsOne ra) :=
  statement_of (w := wordR 0x2B 0 (fpField ra) 0 0 0) rfl (mem_fp (List.mem_of_getElem? (i := 27) rfl)) opcodeOf_wordR
    (mask_R 15 0 15 15 255 rfl BitVec.zero_and BitVec.and_zero BitVec.zero_and BitVec.zero_and BitVec.zero_and)
    (by
      show Instr.fpIsOne (fpIdx (raOf _)) = _
      simp only [raOf_wordR, fpIdx_fpField])

theorem fpIsOdd (ra : FpIdx) : Statement (.fpIsOdd ra) :=
  statement_of (w := wordR 0x2C 0 (fpField ra) 0 0 0) rfl (mem_fp (List.mem_of_getElem? (i := 28) rfl)) opcodeOf_wordR
    (mask_R 15 0 15 15 255 rfl BitVec.zero_and BitVec.and_zero BitVec.zero_and BitVec.zero_and BitVec.zero_and)
    (by
      show Instr.fpIsOdd (fpIdx (raOf _)) = _
      simp only [raOf_wordR, fpIdx_fpField])

theorem fpIsEven (ra : FpIdx) : Statement (.fpIsEven ra) :=
  statement_of (w := wordR 0x2D 0 (fpField ra) 0 0 0) rfl (mem_fp (List.mem_of_getElem? (i := 29) rfl)) opcodeOf_wordR
    (mask_R 15 0 15 15 255 rfl BitVec.zero_and BitVec.and_zero BitVec.zero_and BitVec.zero_and BitVec.zero_and)
    (by
      show Instr.fpIsEven (fpIdx (raOf _)) = _
      simp only [raOf_wordR, fpIdx_fpField])

theorem fpIsValid (ra : FpIdx) : Statement (.fpIsValid ra) :=
  statement_of (w := wordR 0x2E 0 (fpField ra) 0 0 0) rfl (mem_fp (List.mem_of_getElem? (i := 30) rfl)) opcodeOf_wordR
    (mask_R 15 0 15 15 255 rfl BitVec.zero_and BitVec.and_zero BitVec.zero_and BitVec.zero_and BitVec.zero_and)
    (by
      show Instr.fpIsValid (fpIdx (raOf _)) = _
      simp only [raOf_wordR, fpIdx_fpField])

theorem fp3Zero (rd : Idx) : Statement (.fp3Zero rd) :=
  statement_of (w := wordR 0x30 (field rd) 0 0 0 0) rfl (mem_fp3 (List.mem_of_getElem? (i := 0) rfl)) opcodeOf_wordR
    (mask_R 8 15 15 15 255 rfl (field_and_eight rd) BitVec.zero_and BitVec.zero_and BitVec.zero_and BitVec.zero_and)
    (by
      show Instr.fp3Zero (idx (rdOf _)) = _
      simp only [rdOf_wordR, idx_field])

theorem fp3One (rd : Idx) : Statement (.fp3One rd) :=
  statement_of (w := wordR 0x31 (field rd) 0 0 0 0) rfl (mem_fp3 (List.mem_of_getElem? (i := 1) rfl)) opcodeOf_wordR
    (mask_R 8 15 15 15 255 rfl (field_and_eight rd) BitVec.zero_and BitVec.zero_and BitVec.zero_and BitVec.zero_and)
    (by
      show Instr.fp3One (idx (rdOf _)) = _
      simp only [rdOf_wordR, idx_field])

theorem fp3Mov (rd : Idx) (ra : Idx) : Statement (.fp3Mov rd ra) :=
  statement_of (w := wordR 0x32 (field rd) (field ra) 0 0 0) rfl (mem_fp3 (List.mem_of_getElem? (i := 2) rfl))
      opcodeOf_wordR
    (mask_R 8 8 15 15 255 rfl (field_and_eight rd) (field_and_eight ra) BitVec.zero_and BitVec.zero_and
      BitVec.zero_and)
    (by
      show Instr.fp3Mov (idx (rdOf _)) (idx (raOf _)) = _
      simp only [rdOf_wordR, idx_field, raOf_wordR])

theorem fp3Ld (rd : Idx) : Statement (.fp3Ld rd) :=
  statement_of (w := wordR 0x33 (field rd) 0 0 0 0) rfl (mem_fp3 (List.mem_of_getElem? (i := 3) rfl)) opcodeOf_wordR
    (mask_R 8 15 15 15 255 rfl (field_and_eight rd) BitVec.zero_and BitVec.zero_and BitVec.zero_and BitVec.zero_and)
    (by
      show Instr.fp3Ld (idx (rdOf _)) = _
      simp only [rdOf_wordR, idx_field])

theorem fp3St (ra : Idx) : Statement (.fp3St ra) :=
  statement_of (w := wordR 0x34 0 (field ra) 0 0 0) rfl (mem_fp3 (List.mem_of_getElem? (i := 4) rfl)) opcodeOf_wordR
    (mask_R 15 8 15 15 255 rfl BitVec.zero_and (field_and_eight ra) BitVec.zero_and BitVec.zero_and BitVec.zero_and)
    (by
      show Instr.fp3St (idx (raOf _)) = _
      simp only [raOf_wordR, idx_field])

theorem fp3Set (rd : Idx) (ra : FpIdx) (rb : FpIdx) (rc : FpIdx) : Statement (.fp3Set rd ra rb rc) :=
  statement_of (w := wordR 0x35 (field rd) (fpField ra) (fpField rb) (fpField rc) 0) rfl (mem_fp3
      (List.mem_of_getElem? (i := 5) rfl)) opcodeOf_wordR
    (mask_R 8 0 0 0 255 rfl (field_and_eight rd) BitVec.and_zero BitVec.and_zero BitVec.and_zero BitVec.zero_and)
    (by
      show Instr.fp3Set (idx (rdOf _)) (fpIdx (raOf _)) (fpIdx (rbOf _)) (fpIdx (rcOf _)) = _
      simp only [rdOf_wordR, idx_field, raOf_wordR, fpIdx_fpField, rbOf_wordR, rcOf_wordR])

theorem fp3Get (rd : FpIdx) (ra : Idx) (imm8 : BitVec 8) : Statement (.fp3Get rd ra imm8) :=
  statement_of (w := wordR 0x36 (fpField rd) (field ra) 0 0 imm8) rfl (mem_fp3 (List.mem_of_getElem? (i := 6) rfl))
      opcodeOf_wordR
    (mask_R 0 8 15 15 0 rfl BitVec.and_zero (field_and_eight ra) BitVec.zero_and BitVec.zero_and BitVec.and_zero)
    (by
      show Instr.fp3Get (fpIdx (rdOf _)) (idx (raOf _)) (imm8Of _) = _
      simp only [rdOf_wordR, fpIdx_fpField, raOf_wordR, idx_field, imm8Of_wordR])

theorem fp3Add (rd : Idx) (ra : Idx) (rb : Idx) : Statement (.fp3Add rd ra rb) :=
  statement_of (w := wordR 0x37 (field rd) (field ra) (field rb) 0 0) rfl (mem_fp3 (List.mem_of_getElem? (i := 7)
      rfl)) opcodeOf_wordR
    (mask_R 8 8 8 15 255 rfl (field_and_eight rd) (field_and_eight ra) (field_and_eight rb) BitVec.zero_and
      BitVec.zero_and)
    (by
      show Instr.fp3Add (idx (rdOf _)) (idx (raOf _)) (idx (rbOf _)) = _
      simp only [rdOf_wordR, idx_field, raOf_wordR, rbOf_wordR])

theorem fp3Sub (rd : Idx) (ra : Idx) (rb : Idx) : Statement (.fp3Sub rd ra rb) :=
  statement_of (w := wordR 0x38 (field rd) (field ra) (field rb) 0 0) rfl (mem_fp3 (List.mem_of_getElem? (i := 8)
      rfl)) opcodeOf_wordR
    (mask_R 8 8 8 15 255 rfl (field_and_eight rd) (field_and_eight ra) (field_and_eight rb) BitVec.zero_and
      BitVec.zero_and)
    (by
      show Instr.fp3Sub (idx (rdOf _)) (idx (raOf _)) (idx (rbOf _)) = _
      simp only [rdOf_wordR, idx_field, raOf_wordR, rbOf_wordR])

theorem fp3Double (rd : Idx) (ra : Idx) : Statement (.fp3Double rd ra) :=
  statement_of (w := wordR 0x39 (field rd) (field ra) 0 0 0) rfl (mem_fp3 (List.mem_of_getElem? (i := 9) rfl))
      opcodeOf_wordR
    (mask_R 8 8 15 15 255 rfl (field_and_eight rd) (field_and_eight ra) BitVec.zero_and BitVec.zero_and
      BitVec.zero_and)
    (by
      show Instr.fp3Double (idx (rdOf _)) (idx (raOf _)) = _
      simp only [rdOf_wordR, idx_field, raOf_wordR])

theorem fp3Neg (rd : Idx) (ra : Idx) : Statement (.fp3Neg rd ra) :=
  statement_of (w := wordR 0x3A (field rd) (field ra) 0 0 0) rfl (mem_fp3 (List.mem_of_getElem? (i := 10) rfl))
      opcodeOf_wordR
    (mask_R 8 8 15 15 255 rfl (field_and_eight rd) (field_and_eight ra) BitVec.zero_and BitVec.zero_and
      BitVec.zero_and)
    (by
      show Instr.fp3Neg (idx (rdOf _)) (idx (raOf _)) = _
      simp only [rdOf_wordR, idx_field, raOf_wordR])

theorem fp3LAdd (rd : Idx) (ra : Idx) (rb : Idx) : Statement (.fp3LAdd rd ra rb) :=
  statement_of (w := wordR 0x3B (field rd) (field ra) (field rb) 0 0) rfl (mem_fp3 (List.mem_of_getElem? (i := 11)
      rfl)) opcodeOf_wordR
    (mask_R 8 8 8 15 255 rfl (field_and_eight rd) (field_and_eight ra) (field_and_eight rb) BitVec.zero_and
      BitVec.zero_and)
    (by
      show Instr.fp3LAdd (idx (rdOf _)) (idx (raOf _)) (idx (rbOf _)) = _
      simp only [rdOf_wordR, idx_field, raOf_wordR, rbOf_wordR])

theorem fp3Mul (rd : Idx) (ra : Idx) (rb : Idx) : Statement (.fp3Mul rd ra rb) :=
  statement_of (w := wordR 0x3C (field rd) (field ra) (field rb) 0 0) rfl (mem_fp3 (List.mem_of_getElem? (i := 12)
      rfl)) opcodeOf_wordR
    (mask_R 8 8 8 15 255 rfl (field_and_eight rd) (field_and_eight ra) (field_and_eight rb) BitVec.zero_and
      BitVec.zero_and)
    (by
      show Instr.fp3Mul (idx (rdOf _)) (idx (raOf _)) (idx (rbOf _)) = _
      simp only [rdOf_wordR, idx_field, raOf_wordR, rbOf_wordR])

theorem fp3Square (rd : Idx) (ra : Idx) : Statement (.fp3Square rd ra) :=
  statement_of (w := wordR 0x3D (field rd) (field ra) 0 0 0) rfl (mem_fp3 (List.mem_of_getElem? (i := 13) rfl))
      opcodeOf_wordR
    (mask_R 8 8 15 15 255 rfl (field_and_eight rd) (field_and_eight ra) BitVec.zero_and BitVec.zero_and
      BitVec.zero_and)
    (by
      show Instr.fp3Square (idx (rdOf _)) (idx (raOf _)) = _
      simp only [rdOf_wordR, idx_field, raOf_wordR])

theorem fp3Inv (rd : Idx) (ra : Idx) : Statement (.fp3Inv rd ra) :=
  statement_of (w := wordR 0x3E (field rd) (field ra) 0 0 0) rfl (mem_fp3 (List.mem_of_getElem? (i := 14) rfl))
      opcodeOf_wordR
    (mask_R 8 8 15 15 255 rfl (field_and_eight rd) (field_and_eight ra) BitVec.zero_and BitVec.zero_and
      BitVec.zero_and)
    (by
      show Instr.fp3Inv (idx (rdOf _)) (idx (raOf _)) = _
      simp only [rdOf_wordR, idx_field, raOf_wordR])

theorem fp3Exp (rd : Idx) (ra : Idx) (rb : Idx) : Statement (.fp3Exp rd ra rb) :=
  statement_of (w := wordR 0x3F (field rd) (field ra) (field rb) 0 0) rfl (mem_fp3 (List.mem_of_getElem? (i := 15)
      rfl)) opcodeOf_wordR
    (mask_R 8 8 8 15 255 rfl (field_and_eight rd) (field_and_eight ra) (field_and_eight rb) BitVec.zero_and
      BitVec.zero_and)
    (by
      show Instr.fp3Exp (idx (rdOf _)) (idx (raOf _)) (idx (rbOf _)) = _
      simp only [rdOf_wordR, idx_field, raOf_wordR, rbOf_wordR])

theorem fp3Frob (rd : Idx) (ra : Idx) (imm8 : BitVec 8) : Statement (.fp3Frob rd ra imm8) :=
  statement_of (w := wordR 0x40 (field rd) (field ra) 0 0 imm8) rfl (mem_fp3 (List.mem_of_getElem? (i := 16) rfl))
      opcodeOf_wordR
    (mask_R 8 8 15 15 0 rfl (field_and_eight rd) (field_and_eight ra) BitVec.zero_and BitVec.zero_and BitVec.and_zero)
    (by
      show Instr.fp3Frob (idx (rdOf _)) (idx (raOf _)) (imm8Of _) = _
      simp only [rdOf_wordR, idx_field, raOf_wordR, imm8Of_wordR])

theorem fp3Mul0 (rd : Idx) (ra : Idx) (rb : Idx) : Statement (.fp3Mul0 rd ra rb) :=
  statement_of (w := wordR 0x41 (field rd) (field ra) (field rb) 0 0) rfl (mem_fp3 (List.mem_of_getElem? (i := 17)
      rfl)) opcodeOf_wordR
    (mask_R 8 8 8 15 255 rfl (field_and_eight rd) (field_and_eight ra) (field_and_eight rb) BitVec.zero_and
      BitVec.zero_and)
    (by
      show Instr.fp3Mul0 (idx (rdOf _)) (idx (raOf _)) (idx (rbOf _)) = _
      simp only [rdOf_wordR, idx_field, raOf_wordR, rbOf_wordR])

theorem fp3Eq (ra : Idx) (rb : Idx) : Statement (.fp3Eq ra rb) :=
  statement_of (w := wordR 0x42 0 (field ra) (field rb) 0 0) rfl (mem_fp3 (List.mem_of_getElem? (i := 18) rfl))
      opcodeOf_wordR
    (mask_R 15 8 8 15 255 rfl BitVec.zero_and (field_and_eight ra) (field_and_eight rb) BitVec.zero_and
      BitVec.zero_and)
    (by
      show Instr.fp3Eq (idx (raOf _)) (idx (rbOf _)) = _
      simp only [raOf_wordR, idx_field, rbOf_wordR])

theorem fp3IsZero (ra : Idx) : Statement (.fp3IsZero ra) :=
  statement_of (w := wordR 0x43 0 (field ra) 0 0 0) rfl (mem_fp3 (List.mem_of_getElem? (i := 19) rfl)) opcodeOf_wordR
    (mask_R 15 8 15 15 255 rfl BitVec.zero_and (field_and_eight ra) BitVec.zero_and BitVec.zero_and BitVec.zero_and)
    (by
      show Instr.fp3IsZero (idx (raOf _)) = _
      simp only [raOf_wordR, idx_field])

theorem fp3IsOne (ra : Idx) : Statement (.fp3IsOne ra) :=
  statement_of (w := wordR 0x44 0 (field ra) 0 0 0) rfl (mem_fp3 (List.mem_of_getElem? (i := 20) rfl)) opcodeOf_wordR
    (mask_R 15 8 15 15 255 rfl BitVec.zero_and (field_and_eight ra) BitVec.zero_and BitVec.zero_and BitVec.zero_and)
    (by
      show Instr.fp3IsOne (idx (raOf _)) = _
      simp only [raOf_wordR, idx_field])

theorem fp6Zero (rd : Idx) : Statement (.fp6Zero rd) :=
  statement_of (w := wordR 0x50 (field rd) 0 0 0 0) rfl (mem_fp6 (List.mem_of_getElem? (i := 0) rfl)) opcodeOf_wordR
    (mask_R 8 15 15 15 255 rfl (field_and_eight rd) BitVec.zero_and BitVec.zero_and BitVec.zero_and BitVec.zero_and)
    (by
      show Instr.fp6Zero (idx (rdOf _)) = _
      simp only [rdOf_wordR, idx_field])

theorem fp6One (rd : Idx) : Statement (.fp6One rd) :=
  statement_of (w := wordR 0x51 (field rd) 0 0 0 0) rfl (mem_fp6 (List.mem_of_getElem? (i := 1) rfl)) opcodeOf_wordR
    (mask_R 8 15 15 15 255 rfl (field_and_eight rd) BitVec.zero_and BitVec.zero_and BitVec.zero_and BitVec.zero_and)
    (by
      show Instr.fp6One (idx (rdOf _)) = _
      simp only [rdOf_wordR, idx_field])

theorem fp6Mov (rd : Idx) (ra : Idx) : Statement (.fp6Mov rd ra) :=
  statement_of (w := wordR 0x52 (field rd) (field ra) 0 0 0) rfl (mem_fp6 (List.mem_of_getElem? (i := 2) rfl))
      opcodeOf_wordR
    (mask_R 8 8 15 15 255 rfl (field_and_eight rd) (field_and_eight ra) BitVec.zero_and BitVec.zero_and
      BitVec.zero_and)
    (by
      show Instr.fp6Mov (idx (rdOf _)) (idx (raOf _)) = _
      simp only [rdOf_wordR, idx_field, raOf_wordR])

theorem fp6Ld (rd : Idx) : Statement (.fp6Ld rd) :=
  statement_of (w := wordR 0x53 (field rd) 0 0 0 0) rfl (mem_fp6 (List.mem_of_getElem? (i := 3) rfl)) opcodeOf_wordR
    (mask_R 8 15 15 15 255 rfl (field_and_eight rd) BitVec.zero_and BitVec.zero_and BitVec.zero_and BitVec.zero_and)
    (by
      show Instr.fp6Ld (idx (rdOf _)) = _
      simp only [rdOf_wordR, idx_field])

theorem fp6St (ra : Idx) : Statement (.fp6St ra) :=
  statement_of (w := wordR 0x54 0 (field ra) 0 0 0) rfl (mem_fp6 (List.mem_of_getElem? (i := 4) rfl)) opcodeOf_wordR
    (mask_R 15 8 15 15 255 rfl BitVec.zero_and (field_and_eight ra) BitVec.zero_and BitVec.zero_and BitVec.zero_and)
    (by
      show Instr.fp6St (idx (raOf _)) = _
      simp only [raOf_wordR, idx_field])

theorem fp6Set (rd : Idx) (ra : Idx) (rb : Idx) : Statement (.fp6Set rd ra rb) :=
  statement_of (w := wordR 0x55 (field rd) (field ra) (field rb) 0 0) rfl (mem_fp6 (List.mem_of_getElem? (i := 5)
      rfl)) opcodeOf_wordR
    (mask_R 8 8 8 15 255 rfl (field_and_eight rd) (field_and_eight ra) (field_and_eight rb) BitVec.zero_and
      BitVec.zero_and)
    (by
      show Instr.fp6Set (idx (rdOf _)) (idx (raOf _)) (idx (rbOf _)) = _
      simp only [rdOf_wordR, idx_field, raOf_wordR, rbOf_wordR])

theorem fp6Get (rd : Idx) (ra : Idx) (imm8 : BitVec 8) : Statement (.fp6Get rd ra imm8) :=
  statement_of (w := wordR 0x56 (field rd) (field ra) 0 0 imm8) rfl (mem_fp6 (List.mem_of_getElem? (i := 6) rfl))
      opcodeOf_wordR
    (mask_R 8 8 15 15 0 rfl (field_and_eight rd) (field_and_eight ra) BitVec.zero_and BitVec.zero_and BitVec.and_zero)
    (by
      show Instr.fp6Get (idx (rdOf _)) (idx (raOf _)) (imm8Of _) = _
      simp only [rdOf_wordR, idx_field, raOf_wordR, imm8Of_wordR])

theorem fp6Add (rd : Idx) (ra : Idx) (rb : Idx) : Statement (.fp6Add rd ra rb) :=
  statement_of (w := wordR 0x57 (field rd) (field ra) (field rb) 0 0) rfl (mem_fp6 (List.mem_of_getElem? (i := 7)
      rfl)) opcodeOf_wordR
    (mask_R 8 8 8 15 255 rfl (field_and_eight rd) (field_and_eight ra) (field_and_eight rb) BitVec.zero_and
      BitVec.zero_and)
    (by
      show Instr.fp6Add (idx (rdOf _)) (idx (raOf _)) (idx (rbOf _)) = _
      simp only [rdOf_wordR, idx_field, raOf_wordR, rbOf_wordR])

theorem fp6Sub (rd : Idx) (ra : Idx) (rb : Idx) : Statement (.fp6Sub rd ra rb) :=
  statement_of (w := wordR 0x58 (field rd) (field ra) (field rb) 0 0) rfl (mem_fp6 (List.mem_of_getElem? (i := 8)
      rfl)) opcodeOf_wordR
    (mask_R 8 8 8 15 255 rfl (field_and_eight rd) (field_and_eight ra) (field_and_eight rb) BitVec.zero_and
      BitVec.zero_and)
    (by
      show Instr.fp6Sub (idx (rdOf _)) (idx (raOf _)) (idx (rbOf _)) = _
      simp only [rdOf_wordR, idx_field, raOf_wordR, rbOf_wordR])

theorem fp6Double (rd : Idx) (ra : Idx) : Statement (.fp6Double rd ra) :=
  statement_of (w := wordR 0x59 (field rd) (field ra) 0 0 0) rfl (mem_fp6 (List.mem_of_getElem? (i := 9) rfl))
      opcodeOf_wordR
    (mask_R 8 8 15 15 255 rfl (field_and_eight rd) (field_and_eight ra) BitVec.zero_and BitVec.zero_and
      BitVec.zero_and)
    (by
      show Instr.fp6Double (idx (rdOf _)) (idx (raOf _)) = _
      simp only [rdOf_wordR, idx_field, raOf_wordR])

theorem fp6Neg (rd : Idx) (ra : Idx) : Statement (.fp6Neg rd ra) :=
  statement_of (w := wordR 0x5A (field rd) (field ra) 0 0 0) rfl (mem_fp6 (List.mem_of_getElem? (i := 10) rfl))
      opcodeOf_wordR
    (mask_R 8 8 15 15 255 rfl (field_and_eight rd) (field_and_eight ra) BitVec.zero_and BitVec.zero_and
      BitVec.zero_and)
    (by
      show Instr.fp6Neg (idx (rdOf _)) (idx (raOf _)) = _
      simp only [rdOf_wordR, idx_field, raOf_wordR])

theorem fp6LAdd (rd : Idx) (ra : Idx) (rb : Idx) : Statement (.fp6LAdd rd ra rb) :=
  statement_of (w := wordR 0x5B (field rd) (field ra) (field rb) 0 0) rfl (mem_fp6 (List.mem_of_getElem? (i := 11)
      rfl)) opcodeOf_wordR
    (mask_R 8 8 8 15 255 rfl (field_and_eight rd) (field_and_eight ra) (field_and_eight rb) BitVec.zero_and
      BitVec.zero_and)
    (by
      show Instr.fp6LAdd (idx (rdOf _)) (idx (raOf _)) (idx (rbOf _)) = _
      simp only [rdOf_wordR, idx_field, raOf_wordR, rbOf_wordR])

theorem fp6Mul (rd : Idx) (ra : Idx) (rb : Idx) : Statement (.fp6Mul rd ra rb) :=
  statement_of (w := wordR 0x5C (field rd) (field ra) (field rb) 0 0) rfl (mem_fp6 (List.mem_of_getElem? (i := 12)
      rfl)) opcodeOf_wordR
    (mask_R 8 8 8 15 255 rfl (field_and_eight rd) (field_and_eight ra) (field_and_eight rb) BitVec.zero_and
      BitVec.zero_and)
    (by
      show Instr.fp6Mul (idx (rdOf _)) (idx (raOf _)) (idx (rbOf _)) = _
      simp only [rdOf_wordR, idx_field, raOf_wordR, rbOf_wordR])

theorem fp6Square (rd : Idx) (ra : Idx) : Statement (.fp6Square rd ra) :=
  statement_of (w := wordR 0x5D (field rd) (field ra) 0 0 0) rfl (mem_fp6 (List.mem_of_getElem? (i := 13) rfl))
      opcodeOf_wordR
    (mask_R 8 8 15 15 255 rfl (field_and_eight rd) (field_and_eight ra) BitVec.zero_and BitVec.zero_and
      BitVec.zero_and)
    (by
      show Instr.fp6Square (idx (rdOf _)) (idx (raOf _)) = _
      simp only [rdOf_wordR, idx_field, raOf_wordR])

theorem fp6CycSq (rd : Idx) (ra : Idx) : Statement (.fp6CycSq rd ra) :=
  statement_of (w := wordR 0x5E (field rd) (field ra) 0 0 0) rfl (mem_fp6 (List.mem_of_getElem? (i := 14) rfl))
      opcodeOf_wordR
    (mask_R 8 8 15 15 255 rfl (field_and_eight rd) (field_and_eight ra) BitVec.zero_and BitVec.zero_and
      BitVec.zero_and)
    (by
      show Instr.fp6CycSq (idx (rdOf _)) (idx (raOf _)) = _
      simp only [rdOf_wordR, idx_field, raOf_wordR])

theorem fp6Inv (rd : Idx) (ra : Idx) : Statement (.fp6Inv rd ra) :=
  statement_of (w := wordR 0x5F (field rd) (field ra) 0 0 0) rfl (mem_fp6 (List.mem_of_getElem? (i := 15) rfl))
      opcodeOf_wordR
    (mask_R 8 8 15 15 255 rfl (field_and_eight rd) (field_and_eight ra) BitVec.zero_and BitVec.zero_and
      BitVec.zero_and)
    (by
      show Instr.fp6Inv (idx (rdOf _)) (idx (raOf _)) = _
      simp only [rdOf_wordR, idx_field, raOf_wordR])

theorem fp6Exp (rd : Idx) (ra : Idx) (rb : Idx) : Statement (.fp6Exp rd ra rb) :=
  statement_of (w := wordR 0x60 (field rd) (field ra) (field rb) 0 0) rfl (mem_fp6 (List.mem_of_getElem? (i := 16)
      rfl)) opcodeOf_wordR
    (mask_R 8 8 8 15 255 rfl (field_and_eight rd) (field_and_eight ra) (field_and_eight rb) BitVec.zero_and
      BitVec.zero_and)
    (by
      show Instr.fp6Exp (idx (rdOf _)) (idx (raOf _)) (idx (rbOf _)) = _
      simp only [rdOf_wordR, idx_field, raOf_wordR, rbOf_wordR])

theorem fp6Conj (rd : Idx) (ra : Idx) : Statement (.fp6Conj rd ra) :=
  statement_of (w := wordR 0x61 (field rd) (field ra) 0 0 0) rfl (mem_fp6 (List.mem_of_getElem? (i := 17) rfl))
      opcodeOf_wordR
    (mask_R 8 8 15 15 255 rfl (field_and_eight rd) (field_and_eight ra) BitVec.zero_and BitVec.zero_and
      BitVec.zero_and)
    (by
      show Instr.fp6Conj (idx (rdOf _)) (idx (raOf _)) = _
      simp only [rdOf_wordR, idx_field, raOf_wordR])

theorem fp6Frob (rd : Idx) (ra : Idx) (imm8 : BitVec 8) : Statement (.fp6Frob rd ra imm8) :=
  statement_of (w := wordR 0x62 (field rd) (field ra) 0 0 imm8) rfl (mem_fp6 (List.mem_of_getElem? (i := 18) rfl))
      opcodeOf_wordR
    (mask_R 8 8 15 15 0 rfl (field_and_eight rd) (field_and_eight ra) BitVec.zero_and BitVec.zero_and BitVec.and_zero)
    (by
      show Instr.fp6Frob (idx (rdOf _)) (idx (raOf _)) (imm8Of _) = _
      simp only [rdOf_wordR, idx_field, raOf_wordR, imm8Of_wordR])

theorem fp6Mul014 (rd : Idx) (ra : FpIdx) (rb : FpIdx) (rc : FpIdx) : Statement (.fp6Mul014 rd ra rb rc) :=
  statement_of (w := wordR 0x63 (field rd) (fpField ra) (fpField rb) (fpField rc) 0) rfl (mem_fp6
      (List.mem_of_getElem? (i := 19) rfl)) opcodeOf_wordR
    (mask_R 8 0 0 0 255 rfl (field_and_eight rd) BitVec.and_zero BitVec.and_zero BitVec.and_zero BitVec.zero_and)
    (by
      show Instr.fp6Mul014 (idx (rdOf _)) (fpIdx (raOf _)) (fpIdx (rbOf _)) (fpIdx (rcOf _)) = _
      simp only [rdOf_wordR, idx_field, raOf_wordR, fpIdx_fpField, rbOf_wordR, rcOf_wordR])

theorem fp6Mul034 (rd : Idx) (ra : FpIdx) (rb : FpIdx) (rc : FpIdx) : Statement (.fp6Mul034 rd ra rb rc) :=
  statement_of (w := wordR 0x64 (field rd) (fpField ra) (fpField rb) (fpField rc) 0) rfl (mem_fp6
      (List.mem_of_getElem? (i := 20) rfl)) opcodeOf_wordR
    (mask_R 8 0 0 0 255 rfl (field_and_eight rd) BitVec.and_zero BitVec.and_zero BitVec.and_zero BitVec.zero_and)
    (by
      show Instr.fp6Mul034 (idx (rdOf _)) (fpIdx (raOf _)) (fpIdx (rbOf _)) (fpIdx (rcOf _)) = _
      simp only [rdOf_wordR, idx_field, raOf_wordR, fpIdx_fpField, rbOf_wordR, rcOf_wordR])

theorem fp6Eq (ra : Idx) (rb : Idx) : Statement (.fp6Eq ra rb) :=
  statement_of (w := wordR 0x65 0 (field ra) (field rb) 0 0) rfl (mem_fp6 (List.mem_of_getElem? (i := 21) rfl))
      opcodeOf_wordR
    (mask_R 15 8 8 15 255 rfl BitVec.zero_and (field_and_eight ra) (field_and_eight rb) BitVec.zero_and
      BitVec.zero_and)
    (by
      show Instr.fp6Eq (idx (raOf _)) (idx (rbOf _)) = _
      simp only [raOf_wordR, idx_field, rbOf_wordR])

theorem fp6IsZero (ra : Idx) : Statement (.fp6IsZero ra) :=
  statement_of (w := wordR 0x66 0 (field ra) 0 0 0) rfl (mem_fp6 (List.mem_of_getElem? (i := 22) rfl)) opcodeOf_wordR
    (mask_R 15 8 15 15 255 rfl BitVec.zero_and (field_and_eight ra) BitVec.zero_and BitVec.zero_and BitVec.zero_and)
    (by
      show Instr.fp6IsZero (idx (raOf _)) = _
      simp only [raOf_wordR, idx_field])

theorem fp6IsOne (ra : Idx) : Statement (.fp6IsOne ra) :=
  statement_of (w := wordR 0x67 0 (field ra) 0 0 0) rfl (mem_fp6 (List.mem_of_getElem? (i := 23) rfl)) opcodeOf_wordR
    (mask_R 15 8 15 15 255 rfl BitVec.zero_and (field_and_eight ra) BitVec.zero_and BitVec.zero_and BitVec.zero_and)
    (by
      show Instr.fp6IsOne (idx (raOf _)) = _
      simp only [raOf_wordR, idx_field])

theorem fp6IsValid (ra : Idx) : Statement (.fp6IsValid ra) :=
  statement_of (w := wordR 0x68 0 (field ra) 0 0 0) rfl (mem_fp6 (List.mem_of_getElem? (i := 24) rfl)) opcodeOf_wordR
    (mask_R 15 8 15 15 255 rfl BitVec.zero_and (field_and_eight ra) BitVec.zero_and BitVec.zero_and BitVec.zero_and)
    (by
      show Instr.fp6IsValid (idx (raOf _)) = _
      simp only [raOf_wordR, idx_field])

theorem g1Zero (rd : Idx) : Statement (.g1Zero rd) :=
  statement_of (w := wordR 0x70 (field rd) 0 0 0 0) rfl (mem_g1 (List.mem_of_getElem? (i := 0) rfl)) opcodeOf_wordR
    (mask_R 8 15 15 15 255 rfl (field_and_eight rd) BitVec.zero_and BitVec.zero_and BitVec.zero_and BitVec.zero_and)
    (by
      show Instr.g1Zero (idx (rdOf _)) = _
      simp only [rdOf_wordR, idx_field])

theorem g1Gen (rd : Idx) : Statement (.g1Gen rd) :=
  statement_of (w := wordR 0x71 (field rd) 0 0 0 0) rfl (mem_g1 (List.mem_of_getElem? (i := 1) rfl)) opcodeOf_wordR
    (mask_R 8 15 15 15 255 rfl (field_and_eight rd) BitVec.zero_and BitVec.zero_and BitVec.zero_and BitVec.zero_and)
    (by
      show Instr.g1Gen (idx (rdOf _)) = _
      simp only [rdOf_wordR, idx_field])

theorem g1Mov (rd : Idx) (ra : Idx) : Statement (.g1Mov rd ra) :=
  statement_of (w := wordR 0x72 (field rd) (field ra) 0 0 0) rfl (mem_g1 (List.mem_of_getElem? (i := 2) rfl))
      opcodeOf_wordR
    (mask_R 8 8 15 15 255 rfl (field_and_eight rd) (field_and_eight ra) BitVec.zero_and BitVec.zero_and
      BitVec.zero_and)
    (by
      show Instr.g1Mov (idx (rdOf _)) (idx (raOf _)) = _
      simp only [rdOf_wordR, idx_field, raOf_wordR])

theorem g1Ld (rd : Idx) : Statement (.g1Ld rd) :=
  statement_of (w := wordR 0x73 (field rd) 0 0 0 0) rfl (mem_g1 (List.mem_of_getElem? (i := 3) rfl)) opcodeOf_wordR
    (mask_R 8 15 15 15 255 rfl (field_and_eight rd) BitVec.zero_and BitVec.zero_and BitVec.zero_and BitVec.zero_and)
    (by
      show Instr.g1Ld (idx (rdOf _)) = _
      simp only [rdOf_wordR, idx_field])

theorem g1St (ra : Idx) : Statement (.g1St ra) :=
  statement_of (w := wordR 0x74 0 (field ra) 0 0 0) rfl (mem_g1 (List.mem_of_getElem? (i := 4) rfl)) opcodeOf_wordR
    (mask_R 15 8 15 15 255 rfl BitVec.zero_and (field_and_eight ra) BitVec.zero_and BitVec.zero_and BitVec.zero_and)
    (by
      show Instr.g1St (idx (raOf _)) = _
      simp only [raOf_wordR, idx_field])

theorem g1Set (rd : Idx) (ra : FpIdx) (rb : FpIdx) (rc : FpIdx) : Statement (.g1Set rd ra rb rc) :=
  statement_of (w := wordR 0x75 (field rd) (fpField ra) (fpField rb) (fpField rc) 0) rfl (mem_g1
      (List.mem_of_getElem? (i := 5) rfl)) opcodeOf_wordR
    (mask_R 8 0 0 0 255 rfl (field_and_eight rd) BitVec.and_zero BitVec.and_zero BitVec.and_zero BitVec.zero_and)
    (by
      show Instr.g1Set (idx (rdOf _)) (fpIdx (raOf _)) (fpIdx (rbOf _)) (fpIdx (rcOf _)) = _
      simp only [rdOf_wordR, idx_field, raOf_wordR, fpIdx_fpField, rbOf_wordR, rcOf_wordR])

theorem g1Get (rd : FpIdx) (ra : Idx) (imm8 : BitVec 8) : Statement (.g1Get rd ra imm8) :=
  statement_of (w := wordR 0x76 (fpField rd) (field ra) 0 0 imm8) rfl (mem_g1 (List.mem_of_getElem? (i := 6) rfl))
      opcodeOf_wordR
    (mask_R 0 8 15 15 0 rfl BitVec.and_zero (field_and_eight ra) BitVec.zero_and BitVec.zero_and BitVec.and_zero)
    (by
      show Instr.g1Get (fpIdx (rdOf _)) (idx (raOf _)) (imm8Of _) = _
      simp only [rdOf_wordR, fpIdx_fpField, raOf_wordR, idx_field, imm8Of_wordR])

theorem g1Add (rd : Idx) (ra : Idx) (rb : Idx) : Statement (.g1Add rd ra rb) :=
  statement_of (w := wordR 0x77 (field rd) (field ra) (field rb) 0 0) rfl (mem_g1 (List.mem_of_getElem? (i := 7)
      rfl)) opcodeOf_wordR
    (mask_R 8 8 8 15 255 rfl (field_and_eight rd) (field_and_eight ra) (field_and_eight rb) BitVec.zero_and
      BitVec.zero_and)
    (by
      show Instr.g1Add (idx (rdOf _)) (idx (raOf _)) (idx (rbOf _)) = _
      simp only [rdOf_wordR, idx_field, raOf_wordR, rbOf_wordR])

theorem g1Double (rd : Idx) (ra : Idx) : Statement (.g1Double rd ra) :=
  statement_of (w := wordR 0x78 (field rd) (field ra) 0 0 0) rfl (mem_g1 (List.mem_of_getElem? (i := 8) rfl))
      opcodeOf_wordR
    (mask_R 8 8 15 15 255 rfl (field_and_eight rd) (field_and_eight ra) BitVec.zero_and BitVec.zero_and
      BitVec.zero_and)
    (by
      show Instr.g1Double (idx (rdOf _)) (idx (raOf _)) = _
      simp only [rdOf_wordR, idx_field, raOf_wordR])

theorem g1Neg (rd : Idx) (ra : Idx) : Statement (.g1Neg rd ra) :=
  statement_of (w := wordR 0x79 (field rd) (field ra) 0 0 0) rfl (mem_g1 (List.mem_of_getElem? (i := 9) rfl))
      opcodeOf_wordR
    (mask_R 8 8 15 15 255 rfl (field_and_eight rd) (field_and_eight ra) BitVec.zero_and BitVec.zero_and
      BitVec.zero_and)
    (by
      show Instr.g1Neg (idx (rdOf _)) (idx (raOf _)) = _
      simp only [rdOf_wordR, idx_field, raOf_wordR])

theorem g1Sub (rd : Idx) (ra : Idx) (rb : Idx) : Statement (.g1Sub rd ra rb) :=
  statement_of (w := wordR 0x7A (field rd) (field ra) (field rb) 0 0) rfl (mem_g1 (List.mem_of_getElem? (i := 10)
      rfl)) opcodeOf_wordR
    (mask_R 8 8 8 15 255 rfl (field_and_eight rd) (field_and_eight ra) (field_and_eight rb) BitVec.zero_and
      BitVec.zero_and)
    (by
      show Instr.g1Sub (idx (rdOf _)) (idx (raOf _)) (idx (rbOf _)) = _
      simp only [rdOf_wordR, idx_field, raOf_wordR, rbOf_wordR])

theorem g1Affine (rd : Idx) (ra : Idx) : Statement (.g1Affine rd ra) :=
  statement_of (w := wordR 0x7B (field rd) (field ra) 0 0 0) rfl (mem_g1 (List.mem_of_getElem? (i := 11) rfl))
      opcodeOf_wordR
    (mask_R 8 8 15 15 255 rfl (field_and_eight rd) (field_and_eight ra) BitVec.zero_and BitVec.zero_and
      BitVec.zero_and)
    (by
      show Instr.g1Affine (idx (rdOf _)) (idx (raOf _)) = _
      simp only [rdOf_wordR, idx_field, raOf_wordR])

theorem g1IsOnCurve (ra : Idx) : Statement (.g1IsOnCurve ra) :=
  statement_of (w := wordR 0x7C 0 (field ra) 0 0 0) rfl (mem_g1 (List.mem_of_getElem? (i := 12) rfl)) opcodeOf_wordR
    (mask_R 15 8 15 15 255 rfl BitVec.zero_and (field_and_eight ra) BitVec.zero_and BitVec.zero_and BitVec.zero_and)
    (by
      show Instr.g1IsOnCurve (idx (raOf _)) = _
      simp only [raOf_wordR, idx_field])

theorem g1IsAffine (ra : Idx) : Statement (.g1IsAffine ra) :=
  statement_of (w := wordR 0x7D 0 (field ra) 0 0 0) rfl (mem_g1 (List.mem_of_getElem? (i := 13) rfl)) opcodeOf_wordR
    (mask_R 15 8 15 15 255 rfl BitVec.zero_and (field_and_eight ra) BitVec.zero_and BitVec.zero_and BitVec.zero_and)
    (by
      show Instr.g1IsAffine (idx (raOf _)) = _
      simp only [raOf_wordR, idx_field])

theorem g1IsInf (ra : Idx) : Statement (.g1IsInf ra) :=
  statement_of (w := wordR 0x7E 0 (field ra) 0 0 0) rfl (mem_g1 (List.mem_of_getElem? (i := 14) rfl)) opcodeOf_wordR
    (mask_R 15 8 15 15 255 rfl BitVec.zero_and (field_and_eight ra) BitVec.zero_and BitVec.zero_and BitVec.zero_and)
    (by
      show Instr.g1IsInf (idx (raOf _)) = _
      simp only [raOf_wordR, idx_field])

theorem g1Eq (ra : Idx) (rb : Idx) : Statement (.g1Eq ra rb) :=
  statement_of (w := wordR 0x7F 0 (field ra) (field rb) 0 0) rfl (mem_g1 (List.mem_of_getElem? (i := 15) rfl))
      opcodeOf_wordR
    (mask_R 15 8 8 15 255 rfl BitVec.zero_and (field_and_eight ra) (field_and_eight rb) BitVec.zero_and
      BitVec.zero_and)
    (by
      show Instr.g1Eq (idx (raOf _)) (idx (rbOf _)) = _
      simp only [raOf_wordR, idx_field, rbOf_wordR])

theorem g1MulSc (rd : Idx) (ra : Idx) (rb : Idx) : Statement (.g1MulSc rd ra rb) :=
  statement_of (w := wordR 0x80 (field rd) (field ra) (field rb) 0 0) rfl (mem_g1Scalar (List.mem_of_getElem? (i :=
      0) rfl)) opcodeOf_wordR
    (mask_R 8 8 8 15 255 rfl (field_and_eight rd) (field_and_eight ra) (field_and_eight rb) BitVec.zero_and
      BitVec.zero_and)
    (by
      show Instr.g1MulSc (idx (rdOf _)) (idx (raOf _)) (idx (rbOf _)) = _
      simp only [rdOf_wordR, idx_field, raOf_wordR, rbOf_wordR])

theorem g1ClrCof (rd : Idx) (ra : Idx) : Statement (.g1ClrCof rd ra) :=
  statement_of (w := wordR 0x81 (field rd) (field ra) 0 0 0) rfl (mem_g1Scalar (List.mem_of_getElem? (i := 1) rfl))
      opcodeOf_wordR
    (mask_R 8 8 15 15 255 rfl (field_and_eight rd) (field_and_eight ra) BitVec.zero_and BitVec.zero_and
      BitVec.zero_and)
    (by
      show Instr.g1ClrCof (idx (rdOf _)) (idx (raOf _)) = _
      simp only [rdOf_wordR, idx_field, raOf_wordR])

theorem g1Msm (rd : Idx) (ra : Idx) (rb : Idx) (imm8 : BitVec 8) : Statement (.g1Msm rd ra rb imm8) :=
  statement_of (w := wordR 0x82 (field rd) (field ra) (field rb) 0 imm8) rfl (mem_g1Scalar (List.mem_of_getElem? (i
      := 2) rfl)) opcodeOf_wordR
    (mask_R 8 8 8 15 0 rfl (field_and_eight rd) (field_and_eight ra) (field_and_eight rb) BitVec.zero_and
      BitVec.and_zero)
    (by
      show Instr.g1Msm (idx (rdOf _)) (idx (raOf _)) (idx (rbOf _)) (imm8Of _) = _
      simp only [rdOf_wordR, idx_field, raOf_wordR, rbOf_wordR, imm8Of_wordR])

theorem g2Zero (rd : Idx) : Statement (.g2Zero rd) :=
  statement_of (w := wordR 0x90 (field rd) 0 0 0 0) rfl (mem_g2 (List.mem_of_getElem? (i := 0) rfl)) opcodeOf_wordR
    (mask_R 8 15 15 15 255 rfl (field_and_eight rd) BitVec.zero_and BitVec.zero_and BitVec.zero_and BitVec.zero_and)
    (by
      show Instr.g2Zero (idx (rdOf _)) = _
      simp only [rdOf_wordR, idx_field])

theorem g2Gen (rd : Idx) : Statement (.g2Gen rd) :=
  statement_of (w := wordR 0x91 (field rd) 0 0 0 0) rfl (mem_g2 (List.mem_of_getElem? (i := 1) rfl)) opcodeOf_wordR
    (mask_R 8 15 15 15 255 rfl (field_and_eight rd) BitVec.zero_and BitVec.zero_and BitVec.zero_and BitVec.zero_and)
    (by
      show Instr.g2Gen (idx (rdOf _)) = _
      simp only [rdOf_wordR, idx_field])

theorem g2Mov (rd : Idx) (ra : Idx) : Statement (.g2Mov rd ra) :=
  statement_of (w := wordR 0x92 (field rd) (field ra) 0 0 0) rfl (mem_g2 (List.mem_of_getElem? (i := 2) rfl))
      opcodeOf_wordR
    (mask_R 8 8 15 15 255 rfl (field_and_eight rd) (field_and_eight ra) BitVec.zero_and BitVec.zero_and
      BitVec.zero_and)
    (by
      show Instr.g2Mov (idx (rdOf _)) (idx (raOf _)) = _
      simp only [rdOf_wordR, idx_field, raOf_wordR])

theorem g2Ld (rd : Idx) : Statement (.g2Ld rd) :=
  statement_of (w := wordR 0x93 (field rd) 0 0 0 0) rfl (mem_g2 (List.mem_of_getElem? (i := 3) rfl)) opcodeOf_wordR
    (mask_R 8 15 15 15 255 rfl (field_and_eight rd) BitVec.zero_and BitVec.zero_and BitVec.zero_and BitVec.zero_and)
    (by
      show Instr.g2Ld (idx (rdOf _)) = _
      simp only [rdOf_wordR, idx_field])

theorem g2St (ra : Idx) : Statement (.g2St ra) :=
  statement_of (w := wordR 0x94 0 (field ra) 0 0 0) rfl (mem_g2 (List.mem_of_getElem? (i := 4) rfl)) opcodeOf_wordR
    (mask_R 15 8 15 15 255 rfl BitVec.zero_and (field_and_eight ra) BitVec.zero_and BitVec.zero_and BitVec.zero_and)
    (by
      show Instr.g2St (idx (raOf _)) = _
      simp only [raOf_wordR, idx_field])

theorem g2Set (rd : Idx) (ra : FpIdx) (rb : FpIdx) (rc : FpIdx) : Statement (.g2Set rd ra rb rc) :=
  statement_of (w := wordR 0x95 (field rd) (fpField ra) (fpField rb) (fpField rc) 0) rfl (mem_g2
      (List.mem_of_getElem? (i := 5) rfl)) opcodeOf_wordR
    (mask_R 8 0 0 0 255 rfl (field_and_eight rd) BitVec.and_zero BitVec.and_zero BitVec.and_zero BitVec.zero_and)
    (by
      show Instr.g2Set (idx (rdOf _)) (fpIdx (raOf _)) (fpIdx (rbOf _)) (fpIdx (rcOf _)) = _
      simp only [rdOf_wordR, idx_field, raOf_wordR, fpIdx_fpField, rbOf_wordR, rcOf_wordR])

theorem g2Get (rd : FpIdx) (ra : Idx) (imm8 : BitVec 8) : Statement (.g2Get rd ra imm8) :=
  statement_of (w := wordR 0x96 (fpField rd) (field ra) 0 0 imm8) rfl (mem_g2 (List.mem_of_getElem? (i := 6) rfl))
      opcodeOf_wordR
    (mask_R 0 8 15 15 0 rfl BitVec.and_zero (field_and_eight ra) BitVec.zero_and BitVec.zero_and BitVec.and_zero)
    (by
      show Instr.g2Get (fpIdx (rdOf _)) (idx (raOf _)) (imm8Of _) = _
      simp only [rdOf_wordR, fpIdx_fpField, raOf_wordR, idx_field, imm8Of_wordR])

theorem g2Add (rd : Idx) (ra : Idx) (rb : Idx) : Statement (.g2Add rd ra rb) :=
  statement_of (w := wordR 0x97 (field rd) (field ra) (field rb) 0 0) rfl (mem_g2 (List.mem_of_getElem? (i := 7)
      rfl)) opcodeOf_wordR
    (mask_R 8 8 8 15 255 rfl (field_and_eight rd) (field_and_eight ra) (field_and_eight rb) BitVec.zero_and
      BitVec.zero_and)
    (by
      show Instr.g2Add (idx (rdOf _)) (idx (raOf _)) (idx (rbOf _)) = _
      simp only [rdOf_wordR, idx_field, raOf_wordR, rbOf_wordR])

theorem g2Double (rd : Idx) (ra : Idx) : Statement (.g2Double rd ra) :=
  statement_of (w := wordR 0x98 (field rd) (field ra) 0 0 0) rfl (mem_g2 (List.mem_of_getElem? (i := 8) rfl))
      opcodeOf_wordR
    (mask_R 8 8 15 15 255 rfl (field_and_eight rd) (field_and_eight ra) BitVec.zero_and BitVec.zero_and
      BitVec.zero_and)
    (by
      show Instr.g2Double (idx (rdOf _)) (idx (raOf _)) = _
      simp only [rdOf_wordR, idx_field, raOf_wordR])

theorem g2Neg (rd : Idx) (ra : Idx) : Statement (.g2Neg rd ra) :=
  statement_of (w := wordR 0x99 (field rd) (field ra) 0 0 0) rfl (mem_g2 (List.mem_of_getElem? (i := 9) rfl))
      opcodeOf_wordR
    (mask_R 8 8 15 15 255 rfl (field_and_eight rd) (field_and_eight ra) BitVec.zero_and BitVec.zero_and
      BitVec.zero_and)
    (by
      show Instr.g2Neg (idx (rdOf _)) (idx (raOf _)) = _
      simp only [rdOf_wordR, idx_field, raOf_wordR])

theorem g2Sub (rd : Idx) (ra : Idx) (rb : Idx) : Statement (.g2Sub rd ra rb) :=
  statement_of (w := wordR 0x9A (field rd) (field ra) (field rb) 0 0) rfl (mem_g2 (List.mem_of_getElem? (i := 10)
      rfl)) opcodeOf_wordR
    (mask_R 8 8 8 15 255 rfl (field_and_eight rd) (field_and_eight ra) (field_and_eight rb) BitVec.zero_and
      BitVec.zero_and)
    (by
      show Instr.g2Sub (idx (rdOf _)) (idx (raOf _)) (idx (rbOf _)) = _
      simp only [rdOf_wordR, idx_field, raOf_wordR, rbOf_wordR])

theorem g2Affine (rd : Idx) (ra : Idx) : Statement (.g2Affine rd ra) :=
  statement_of (w := wordR 0x9B (field rd) (field ra) 0 0 0) rfl (mem_g2 (List.mem_of_getElem? (i := 11) rfl))
      opcodeOf_wordR
    (mask_R 8 8 15 15 255 rfl (field_and_eight rd) (field_and_eight ra) BitVec.zero_and BitVec.zero_and
      BitVec.zero_and)
    (by
      show Instr.g2Affine (idx (rdOf _)) (idx (raOf _)) = _
      simp only [rdOf_wordR, idx_field, raOf_wordR])

theorem g2IsOnCurve (ra : Idx) : Statement (.g2IsOnCurve ra) :=
  statement_of (w := wordR 0x9C 0 (field ra) 0 0 0) rfl (mem_g2 (List.mem_of_getElem? (i := 12) rfl)) opcodeOf_wordR
    (mask_R 15 8 15 15 255 rfl BitVec.zero_and (field_and_eight ra) BitVec.zero_and BitVec.zero_and BitVec.zero_and)
    (by
      show Instr.g2IsOnCurve (idx (raOf _)) = _
      simp only [raOf_wordR, idx_field])

theorem g2IsAffine (ra : Idx) : Statement (.g2IsAffine ra) :=
  statement_of (w := wordR 0x9D 0 (field ra) 0 0 0) rfl (mem_g2 (List.mem_of_getElem? (i := 13) rfl)) opcodeOf_wordR
    (mask_R 15 8 15 15 255 rfl BitVec.zero_and (field_and_eight ra) BitVec.zero_and BitVec.zero_and BitVec.zero_and)
    (by
      show Instr.g2IsAffine (idx (raOf _)) = _
      simp only [raOf_wordR, idx_field])

theorem g2IsInf (ra : Idx) : Statement (.g2IsInf ra) :=
  statement_of (w := wordR 0x9E 0 (field ra) 0 0 0) rfl (mem_g2 (List.mem_of_getElem? (i := 14) rfl)) opcodeOf_wordR
    (mask_R 15 8 15 15 255 rfl BitVec.zero_and (field_and_eight ra) BitVec.zero_and BitVec.zero_and BitVec.zero_and)
    (by
      show Instr.g2IsInf (idx (raOf _)) = _
      simp only [raOf_wordR, idx_field])

theorem g2Eq (ra : Idx) (rb : Idx) : Statement (.g2Eq ra rb) :=
  statement_of (w := wordR 0x9F 0 (field ra) (field rb) 0 0) rfl (mem_g2 (List.mem_of_getElem? (i := 15) rfl))
      opcodeOf_wordR
    (mask_R 15 8 8 15 255 rfl BitVec.zero_and (field_and_eight ra) (field_and_eight rb) BitVec.zero_and
      BitVec.zero_and)
    (by
      show Instr.g2Eq (idx (raOf _)) (idx (rbOf _)) = _
      simp only [raOf_wordR, idx_field, rbOf_wordR])

theorem g2MulSc (rd : Idx) (ra : Idx) (rb : Idx) : Statement (.g2MulSc rd ra rb) :=
  statement_of (w := wordR 0xA0 (field rd) (field ra) (field rb) 0 0) rfl (mem_g2Scalar (List.mem_of_getElem? (i :=
      0) rfl)) opcodeOf_wordR
    (mask_R 8 8 8 15 255 rfl (field_and_eight rd) (field_and_eight ra) (field_and_eight rb) BitVec.zero_and
      BitVec.zero_and)
    (by
      show Instr.g2MulSc (idx (rdOf _)) (idx (raOf _)) (idx (rbOf _)) = _
      simp only [rdOf_wordR, idx_field, raOf_wordR, rbOf_wordR])

theorem g2ClrCof (rd : Idx) (ra : Idx) : Statement (.g2ClrCof rd ra) :=
  statement_of (w := wordR 0xA1 (field rd) (field ra) 0 0 0) rfl (mem_g2Scalar (List.mem_of_getElem? (i := 1) rfl))
      opcodeOf_wordR
    (mask_R 8 8 15 15 255 rfl (field_and_eight rd) (field_and_eight ra) BitVec.zero_and BitVec.zero_and
      BitVec.zero_and)
    (by
      show Instr.g2ClrCof (idx (rdOf _)) (idx (raOf _)) = _
      simp only [rdOf_wordR, idx_field, raOf_wordR])

theorem g2Msm (rd : Idx) (ra : Idx) (rb : Idx) (imm8 : BitVec 8) : Statement (.g2Msm rd ra rb imm8) :=
  statement_of (w := wordR 0xA2 (field rd) (field ra) (field rb) 0 imm8) rfl (mem_g2Scalar (List.mem_of_getElem? (i
      := 2) rfl)) opcodeOf_wordR
    (mask_R 8 8 8 15 0 rfl (field_and_eight rd) (field_and_eight ra) (field_and_eight rb) BitVec.zero_and
      BitVec.and_zero)
    (by
      show Instr.g2Msm (idx (rdOf _)) (idx (raOf _)) (idx (rbOf _)) (imm8Of _) = _
      simp only [rdOf_wordR, idx_field, raOf_wordR, rbOf_wordR, imm8Of_wordR])

theorem g2InSub (ra : Idx) : Statement (.g2InSub ra) :=
  statement_of (w := wordR 0xA3 0 (field ra) 0 0 0) rfl (mem_g2Scalar (List.mem_of_getElem? (i := 3) rfl))
      opcodeOf_wordR
    (mask_R 15 8 15 15 255 rfl BitVec.zero_and (field_and_eight ra) BitVec.zero_and BitVec.zero_and BitVec.zero_and)
    (by
      show Instr.g2InSub (idx (raOf _)) = _
      simp only [raOf_wordR, idx_field])

theorem pairAdd (ra : Idx) (rb : Idx) : Statement (.pairAdd ra rb) :=
  statement_of (w := wordR 0xB0 0 (field ra) (field rb) 0 0) rfl (mem_pairing (List.mem_of_getElem? (i := 0) rfl))
      opcodeOf_wordR
    (mask_R 15 8 8 15 255 rfl BitVec.zero_and (field_and_eight ra) (field_and_eight rb) BitVec.zero_and
      BitVec.zero_and)
    (by
      show Instr.pairAdd (idx (raOf _)) (idx (rbOf _)) = _
      simp only [raOf_wordR, idx_field, rbOf_wordR])

theorem pairAddInv (ra : Idx) (rb : Idx) : Statement (.pairAddInv ra rb) :=
  statement_of (w := wordR 0xB1 0 (field ra) (field rb) 0 0) rfl (mem_pairing (List.mem_of_getElem? (i := 1) rfl))
      opcodeOf_wordR
    (mask_R 15 8 8 15 255 rfl BitVec.zero_and (field_and_eight ra) (field_and_eight rb) BitVec.zero_and
      BitVec.zero_and)
    (by
      show Instr.pairAddInv (idx (raOf _)) (idx (rbOf _)) = _
      simp only [raOf_wordR, idx_field, rbOf_wordR])

theorem pairReset : Statement (.pairReset) :=
  statement_of (w := wordR 0xB2 0 0 0 0 0) rfl (mem_pairing (List.mem_of_getElem? (i := 2) rfl)) opcodeOf_wordR
    (mask_R 15 15 15 15 255 rfl BitVec.zero_and BitVec.zero_and BitVec.zero_and BitVec.zero_and BitVec.zero_and)
    rfl

theorem pairResult (rd : Idx) : Statement (.pairResult rd) :=
  statement_of (w := wordR 0xB3 (field rd) 0 0 0 0) rfl (mem_pairing (List.mem_of_getElem? (i := 3) rfl))
      opcodeOf_wordR
    (mask_R 8 15 15 15 255 rfl (field_and_eight rd) BitVec.zero_and BitVec.zero_and BitVec.zero_and BitVec.zero_and)
    (by
      show Instr.pairResult (idx (rdOf _)) = _
      simp only [rdOf_wordR, idx_field])

theorem pairCheck : Statement (.pairCheck) :=
  statement_of (w := wordR 0xB4 0 0 0 0 0) rfl (mem_pairing (List.mem_of_getElem? (i := 4) rfl)) opcodeOf_wordR
    (mask_R 15 15 15 15 255 rfl BitVec.zero_and BitVec.zero_and BitVec.zero_and BitVec.zero_and BitVec.zero_and)
    rfl

theorem pairMiller (rd : Idx) : Statement (.pairMiller rd) :=
  statement_of (w := wordR 0xB5 (field rd) 0 0 0 0) rfl (mem_pairing (List.mem_of_getElem? (i := 5) rfl))
      opcodeOf_wordR
    (mask_R 8 15 15 15 255 rfl (field_and_eight rd) BitVec.zero_and BitVec.zero_and BitVec.zero_and BitVec.zero_and)
    (by
      show Instr.pairMiller (idx (rdOf _)) = _
      simp only [rdOf_wordR, idx_field])

theorem fexp (rd : Idx) (ra : Idx) : Statement (.fexp rd ra) :=
  statement_of (w := wordR 0xB6 (field rd) (field ra) 0 0 0) rfl (mem_pairing (List.mem_of_getElem? (i := 6) rfl))
      opcodeOf_wordR
    (mask_R 8 8 15 15 255 rfl (field_and_eight rd) (field_and_eight ra) BitVec.zero_and BitVec.zero_and
      BitVec.zero_and)
    (by
      show Instr.fexp (idx (rdOf _)) (idx (raOf _)) = _
      simp only [rdOf_wordR, idx_field, raOf_wordR])

theorem fexpEasy (rd : Idx) (ra : Idx) : Statement (.fexpEasy rd ra) :=
  statement_of (w := wordR 0xB7 (field rd) (field ra) 0 0 0) rfl (mem_pairing (List.mem_of_getElem? (i := 7) rfl))
      opcodeOf_wordR
    (mask_R 8 8 15 15 255 rfl (field_and_eight rd) (field_and_eight ra) BitVec.zero_and BitVec.zero_and
      BitVec.zero_and)
    (by
      show Instr.fexpEasy (idx (rdOf _)) (idx (raOf _)) = _
      simp only [rdOf_wordR, idx_field, raOf_wordR])

theorem fexpHard (rd : Idx) (ra : Idx) : Statement (.fexpHard rd ra) :=
  statement_of (w := wordR 0xB8 (field rd) (field ra) 0 0 0) rfl (mem_pairing (List.mem_of_getElem? (i := 8) rfl))
      opcodeOf_wordR
    (mask_R 8 8 15 15 255 rfl (field_and_eight rd) (field_and_eight ra) BitVec.zero_and BitVec.zero_and
      BitVec.zero_and)
    (by
      show Instr.fexpHard (idx (rdOf _)) (idx (raOf _)) = _
      simp only [rdOf_wordR, idx_field, raOf_wordR])

end Sys2Proof.Laws.Encoding
end

