-- ==== Sys2Proof/Laws/Tower.lean ====
section
/-! SUPPORT. The laws of the product in Fp6 (R190, R207): its components modulo `p`, commutativity, associativity, one. -/
namespace Sys2Proof.Config
variable {c : Config}

theorem cubic_ext {a b : CubicElt Nat} (h0 : a.c0 = b.c0) (h1 : a.c1 = b.c1) (h2 : a.c2 = b.c2) : a = b := by
  cases a; cases b; simp_all

theorem sextic_ext {a b : SexticElt Nat} (h0 : a.a0 = b.a0) (h1 : a.a1 = b.a1) : a = b := by
  cases a; cases b; simp_all

/-- Two products in Fp6 are equal when their six components are equal modulo `p`. -/
theorem mul6_eq_of_cast (h : 0 < c.pMod) {a b d e : SexticElt Nat}
    (h0 : ((c.mul6 a b).a0.c0 : ZMod c.pMod) = (c.mul6 d e).a0.c0)
    (h1 : ((c.mul6 a b).a0.c1 : ZMod c.pMod) = (c.mul6 d e).a0.c1)
    (h2 : ((c.mul6 a b).a0.c2 : ZMod c.pMod) = (c.mul6 d e).a0.c2)
    (h3 : ((c.mul6 a b).a1.c0 : ZMod c.pMod) = (c.mul6 d e).a1.c0)
    (h4 : ((c.mul6 a b).a1.c1 : ZMod c.pMod) = (c.mul6 d e).a1.c1)
    (h5 : ((c.mul6 a b).a1.c2 : ZMod c.pMod) = (c.mul6 d e).a1.c2) : c.mul6 a b = c.mul6 d e :=
  sextic_ext
    (cubic_ext (eq_of_cast_eq (add_lt h ..) (add_lt h ..) h0) (eq_of_cast_eq (add_lt h ..) (add_lt h ..) h1)
      (eq_of_cast_eq (add_lt h ..) (add_lt h ..) h2))
    (cubic_ext (eq_of_cast_eq (add_lt h ..) (add_lt h ..) h3) (eq_of_cast_eq (add_lt h ..) (add_lt h ..) h4)
      (eq_of_cast_eq (add_lt h ..) (add_lt h ..) h5))

/-- The components of a product in Fp6, modulo `p` (R207). -/
theorem cast_mul6 (a b : SexticElt Nat) :
    let m := c.mul6 a b
    let β : ZMod c.pMod := c.beta
    (m.a0.c0 : ZMod c.pMod) = a.a0.c0 * b.a0.c0 + β * (a.a0.c1 * b.a0.c2 + a.a0.c2 * b.a0.c1) +
      β * (a.a1.c0 * b.a1.c2 + a.a1.c1 * b.a1.c1 + a.a1.c2 * b.a1.c0) ∧
    (m.a0.c1 : ZMod c.pMod) = a.a0.c0 * b.a0.c1 + a.a0.c1 * b.a0.c0 + β * (a.a0.c2 * b.a0.c2) +
      (a.a1.c0 * b.a1.c0 + β * (a.a1.c1 * b.a1.c2 + a.a1.c2 * b.a1.c1)) ∧
    (m.a0.c2 : ZMod c.pMod) = a.a0.c0 * b.a0.c2 + a.a0.c1 * b.a0.c1 + a.a0.c2 * b.a0.c0 +
      (a.a1.c0 * b.a1.c1 + a.a1.c1 * b.a1.c0 + β * (a.a1.c2 * b.a1.c2)) ∧
    (m.a1.c0 : ZMod c.pMod) = a.a0.c0 * b.a1.c0 + β * (a.a0.c1 * b.a1.c2 + a.a0.c2 * b.a1.c1) +
      (a.a1.c0 * b.a0.c0 + β * (a.a1.c1 * b.a0.c2 + a.a1.c2 * b.a0.c1)) ∧
    (m.a1.c1 : ZMod c.pMod) = a.a0.c0 * b.a1.c1 + a.a0.c1 * b.a1.c0 + β * (a.a0.c2 * b.a1.c2) +
      (a.a1.c0 * b.a0.c1 + a.a1.c1 * b.a0.c0 + β * (a.a1.c2 * b.a0.c2)) ∧
    (m.a1.c2 : ZMod c.pMod) = a.a0.c0 * b.a1.c2 + a.a0.c1 * b.a1.c1 + a.a0.c2 * b.a1.c0 +
      (a.a1.c0 * b.a0.c2 + a.a1.c1 * b.a0.c1 + a.a1.c2 * b.a0.c0) := by
  simp [mul6, mul3, mulXi, add3, CubicElt.zipWith]

theorem mul6_comm (h : 0 < c.pMod) (a b : SexticElt Nat) : c.mul6 a b = c.mul6 b a := by
  obtain ⟨h0, h1, h2, h3, h4, h5⟩ := cast_mul6 (c := c) a b
  obtain ⟨g0, g1, g2, g3, g4, g5⟩ := cast_mul6 (c := c) b a
  apply mul6_eq_of_cast h <;> simp only [h0, h1, h2, h3, h4, h5, g0, g1, g2, g3, g4, g5] <;> ring

theorem mul6_assoc (h : 0 < c.pMod) (a b d : SexticElt Nat) : c.mul6 (c.mul6 a b) d = c.mul6 a (c.mul6 b d) := by
  obtain ⟨h0, h1, h2, h3, h4, h5⟩ := cast_mul6 (c := c) a b
  obtain ⟨g0, g1, g2, g3, g4, g5⟩ := cast_mul6 (c := c) b d
  obtain ⟨j0, j1, j2, j3, j4, j5⟩ := cast_mul6 (c := c) (c.mul6 a b) d
  obtain ⟨k0, k1, k2, k3, k4, k5⟩ := cast_mul6 (c := c) a (c.mul6 b d)
  apply mul6_eq_of_cast h
  · rw [j0, k0, h0, h1, h2, h3, h4, h5, g0, g1, g2, g3, g4, g5]; ring
  · rw [j1, k1, h0, h1, h2, h3, h4, h5, g0, g1, g2, g3, g4, g5]; ring
  · rw [j2, k2, h0, h1, h2, h3, h4, h5, g0, g1, g2, g3, g4, g5]; ring
  · rw [j3, k3, h0, h1, h2, h3, h4, h5, g0, g1, g2, g3, g4, g5]; ring
  · rw [j4, k4, h0, h1, h2, h3, h4, h5, g0, g1, g2, g3, g4, g5]; ring
  · rw [j5, k5, h0, h1, h2, h3, h4, h5, g0, g1, g2, g3, g4, g5]; ring

/-- One is neutral for every product (an operand that is no product may hold unreduced components). -/
theorem one6_mul6 (h : 1 < c.pMod) (a b : SexticElt Nat) : c.mul6 c.one6 (c.mul6 a b) = c.mul6 a b := by
  obtain ⟨h0, h1, h2, h3, h4, h5⟩ := cast_mul6 (c := c) c.one6 (c.mul6 a b)
  apply mul6_eq_of_cast (Nat.zero_lt_of_lt h) <;> first | rw [h0] | rw [h1] | rw [h2] | rw [h3] | rw [h4] | rw [h5]
  all_goals simp [one6, one3, zero3]

end Sys2Proof.Config
end

