-- ==== Sys2Proof/Tests/Slice0.lean ====
section
/-! SUPPORT. The model's own tests, few and small. Expected values are those of the spec: the words and one-line
examples of the section files and the vectors V<n> of 95_test_vectors.md, under the published parameter set
(log entry 4). Then one witness or more per statement that has hypotheses. -/
namespace Sys2Proof.Tests

set_option Elab.async false

open Sys2Proof.Machine

/-! ### Helpers -/

/-- The published set. -/
def pub : Config := Config.published

/-- `enc(n)`, a negative `n` modulo `p` (95_test_vectors.md, Writing). -/
def e (n : Int) : Fp := pub.enc (n % pub.pMod).toNat

/-- A quotient, for expected values such as 25/473. -/
def quot (n d : Int) : Fp := pub.enc (pub.mul (n % pub.pMod).toNat (pub.inv (d % pub.pMod).toNat))

def e3 (a b c : Int) : CubicElt Fp := ⟨e a, e b, e c⟩

def e6 (a b c a' b' c' : Int) : SexticElt Fp := ⟨e3 a b c, e3 a' b' c'⟩

/-- `p` as a raw value. -/
def p : Fp := BitVec.ofNat 768 pub.pMod

/-- The reset state. -/
def rs : State := State.reset

/-- The presented word completes and leaves what `q` asks. -/
def runs (w : Word) (s : State) (q : State → Bool) : Bool :=
  match execWord w s with
  | .next t => q t
  | _ => false

/-- The data buffer with a string at address 0, `DPTR` 0 and `DLEN` its length. -/
def loadedWith (str : List Byte) : State :=
  { rs with dmem := ((List.range str.length).zip str).filter (·.2 ≠ 0), dlen := BitVec.ofNat 24 str.length }

/-- `FP[1] = x`, `FP[2] = y`. -/
def fps (x y : Fp) : State := (rs.setFp 1 x).setFp 2 y

/-- `FP3[0] = x`, `FP3[1] = y`. -/
def cubics (x y : CubicElt Fp) : State := (rs.setFp3 0 x).setFp3 1 y

/-- `FP6[0] = x`, `FP6[1] = y`. -/
def sextics (x y : SexticElt Fp) : State := (rs.setFp6 0 x).setFp6 1 y

/-- The values of V16. -/
def cA : CubicElt Fp := e3 1 2 3
def cB : CubicElt Fp := e3 4 5 6

/-- The values of V25. -/
def sA : SexticElt Fp := e6 1 2 3 4 5 6
def sB : SexticElt Fp := e6 7 8 9 10 11 12
def sOne : SexticElt Fp := e6 1 0 0 0 0 0
def sZero : SexticElt Fp := e6 0 0 0 0 0 0
def sW : SexticElt Fp := e6 0 0 0 1 0 0

/-- `G1T` (V20). -/
def g1T : Point Fp :=
  ⟨0x009918c73dcc124aa7b583036935c864cffde31744f837a0fd947c7fee73da051e7fe0555536b1193a1be33544ef7b024cd9755dfe95e5ba6469c9e9402afc4feeea8a1b066c47a4a6f20c75f7feab02eea72e25492571be851a1c1166ae2603,
   0x0030ceaa8cbab39dc62f69887a0e0ed1e54149ee3970878e760b0d826b393143d68088f33580a980d5a2d25bb5f4cc8c4f3dc271f97fe60bcde53070a22b574ddc672db2da00df5dcea7c1807dfc6e02ee5cb8acda0ea650a3c13889f58ed694,
   e 1⟩

/-- `G2T` (V20). -/
def g2T : Point Fp :=
  ⟨0x002fc541f69a8dbec5676a44843ae7bbce598708852a92dc941a4672957418ab42eaf4df92bc1fcfb40146bfc4efa321f19a04a7a47da06da4fb4fd53ad518d4e1f9a0520c1f952dd6e307f08fd0c1a92d4ff25bb7779d4722aab15d6e6db785,
   0x0081d121068af416bcb51a2f60860eacd4c6262064cfdc6e7d215cbfbf97812e02a14b79d966f76e3df0cd2ebcb04c1244f87dd4acdb83ade6bc61fcdda37192e2efc333e3fe81a1d569a8c5b54fe700f3e228083eba8aeced05193ba30a5bb0,
   e 1⟩

/-- `affine(2·G1T)` (V20). -/
def g1T2 : Point Fp :=
  ⟨0x006c9182a500fc2093aab5445c145565ca186dc03d9c1eacf04626c093191d5a888b907a868ed31cd833a71c9203fd69de6b2df7bc652509a36dbb3b8e6cf85ee28015559d9071fb94ac8fa9f0f99229b4db09f2cba8e1ed323d2dc5227a7ced,
   0x005b76a59afbbe736735efa721b523c41cc5f123734599859cc87ddc6cdae362fb13c92138b354deac6df184c3d53e2d031659b3a7ca3fdfbffaa100b2268a7cb6ecef8842c77254f8cf2903d909490c19d1e24d6ffd9a83ae50a072ebab9b45,
   e 1⟩

/-- `(2, y)` on G1, not in the subgroup (V20). -/
def g1Other : Point Fp :=
  ⟨e 2,
   pub.enc 0x0044efcf93d64a64fb891bd9c227286e371967f1ca0a74bb2117232eaae65621c3159e3814de38138f2535f752a2e344e9683cd5351986ed2136e1ade04635632243063b3192c7505cb4e743b590de8e4fd3be128eaf5df76538a669c7adc2db,
   e 1⟩

/-- `(1, y')` on G2, not in the subgroup (V20). -/
def g2Other : Point Fp :=
  ⟨e 1,
   pub.enc 0x00fd4fed0b8de0d83446f75a2a2882550b19e56d62a9b7a2467404be2a2db94a725bbaeee2f232a89b0ce34f06c6174d867c1c6a25f252956199b4c50aa787a92e0ac47d626b486d54e87f516761e7c81cd8371e417a896b171836c2876f5dbd,
   e 1⟩

/-- `T2` on G1, of order 2 (V20). -/
def t2 : Point Fp := ⟨e 1, 0, e 1⟩

/-- `T3` on G2, of order 3 (V20). -/
def t3 : Point Fp := ⟨0, e 2, e 1⟩

/-- Infinity as `AFFINE` writes it (R226). -/
def inf : Point Fp := ⟨0, e 1, 0⟩

/-- `(enc(4x), enc(8y), enc(2))` for the point `(x, y)` (V21): the same point with `z = 2`. -/
def scaled (t : Point Fp) : Point Fp :=
  ⟨pub.enc (pub.mul 4 (pub.dec t.x)), pub.enc (pub.mul 8 (pub.dec t.y)), e 2⟩

/-- `G1[0] = a`, `G1[3] = b`. -/
def g1s (a b : Point Fp) : State := (rs.setPoint .g1 0 a).setPoint .g1 3 b

/-- `G2[0] = a`, `G2[3] = b`. -/
def g2s (a b : Point Fp) : State := (rs.setPoint .g2 0 a).setPoint .g2 3 b

/-- The entry of `(G1T, G2T)`. -/
def genPair : Pair Fp := ⟨g1T.x, g1T.y, g2T.x, g2T.y⟩

/-- `G1[0] = G1T`, `G2[0] = G2T`, and the pair list given. -/
def queued (l : List (Pair Fp)) : State := { (g1s g1T inf).setPoint .g2 0 g2T with pairs := l }

/-- The word of a decoded command runs as the command. -/
theorem execWord_of {w : Word} {i : Instr} {s : State} (h : decode w = .ok i) : execWord w s = exec i s := by
  rw [execWord, h]

/-! ### WellFormed: an ill-formed term per check -/

theorem test_wellFormed_refuses :
    ¬(Instr.fp3Get 5 2 3).WellFormed ∧ ¬(Instr.fp6Get 4 3 2).WellFormed ∧ ¬(Instr.g1Get 0 1 3).WellFormed ∧
    ¬(Instr.g2Get 0 1 3).WellFormed ∧ ¬(Instr.g1Msm 0 1 1 9).WellFormed ∧ ¬(Instr.g2Msm 0 0 0 9).WellFormed ∧
    ¬(Instr.g1Msm 0 7 1 2).WellFormed ∧ ¬(Instr.g2Msm 0 0 7 2).WellFormed := by decide

theorem test_wellFormed_accepts :
    (Instr.fp3Get 5 2 2).WellFormed ∧ (Instr.fp6Get 4 3 1).WellFormed ∧ (Instr.g1Get 0 1 2).WellFormed ∧
    (Instr.g2Get 0 1 2).WellFormed ∧ (Instr.g1Msm 0 7 0 1).WellFormed ∧ (Instr.g2Msm 0 0 0 8).WellFormed ∧
    (Instr.fp6Frob 0 0 255).WellFormed := by decide

/-! ### Decoding -/

/-- The words of the example table of 46_system.md. -/
theorem test_decode_system :
    decode 0x00000000 = .ok .nop ∧
    decode 0x01000100 = .ok (.setPtr 0x100) ∧
    decode 0x02000060 = .ok (.setLen 96) ∧
    decode 0x03000000 = .ok .clrErr ∧
    decode 0x04100002 = .ok (.scLdi 1 2) ∧
    decode 0x05700000 = .ok (.scLd 7) ∧
    decode 0x06010000 = .ok (.scSt 1) ∧
    decode 0x07210000 = .ok (.scMov 2 1) :=
  ⟨rfl, rfl, rfl, rfl, rfl, rfl, rfl, rfl⟩

/-- The words of the example table of 40_fp.md. -/
theorem test_decode_baseField1 :
    decode 0x10000000 = .ok (.fpZero 0) ∧
    decode 0x11100000 = .ok (.fpOne 1) ∧
    decode 0x12200000 = .ok (.fpModulus 2) ∧
    decode 0x13310000 = .ok (.fpMov 3 1) ∧
    decode 0x14100000 = .ok (.fpLd 1) ∧
    decode 0x15030000 = .ok (.fpSt 3) ∧
    decode 0x16410000 = .ok (.fpFromSc 4 1) ∧
    decode 0x17130000 = .ok (.fpToSc 1 3) ∧
    decode 0x18110000 = .ok (.fpToMont 1 1) ∧
    decode 0x19330000 = .ok (.fpFromMont 3 3) ∧
    decode 0x1A312000 = .ok (.fpAdd 3 1 2) ∧
    decode 0x1B312000 = .ok (.fpSub 3 1 2) ∧
    decode 0x1C200000 = .ok (.fpDouble 2 0) ∧
    decode 0x1D100000 = .ok (.fpNeg 1 0) ∧
    decode 0x1E312000 = .ok (.fpLAdd 3 1 2) ∧
    decode 0x1F320000 = .ok (.fpLDouble 3 2) :=
  ⟨rfl, rfl, rfl, rfl, rfl, rfl, rfl, rfl, rfl, rfl, rfl, rfl, rfl, rfl, rfl, rfl⟩

/-- The words of the example table of 40_fp.md. -/
theorem test_decode_baseField2 :
    decode 0x20311000 = .ok (.fpLSub 3 1 1) ∧
    decode 0x21312000 = .ok (.fpMul 3 1 2) ∧
    decode 0x22310000 = .ok (.fpSquare 3 1) ∧
    decode 0x23000000 = .ok (.fpInv 0 0) ∧
    decode 0x24213000 = .ok (.fpExp 2 1 3) ∧
    decode 0x25430000 = .ok (.fpSqrt 4 3) ∧
    decode 0x26010000 = .ok (.fpIsQnr 1) ∧
    decode 0x27100000 = .ok (.fpMulNr 1 0) ∧
    decode 0x28012000 = .ok (.fpCmp 1 2) ∧
    decode 0x29012000 = .ok (.fpEq 1 2) ∧
    decode 0x2A000000 = .ok (.fpIsZero 0) ∧
    decode 0x2B010000 = .ok (.fpIsOne 1) ∧
    decode 0x2C010000 = .ok (.fpIsOdd 1) ∧
    decode 0x2D010000 = .ok (.fpIsEven 1) ∧
    decode 0x2E0F0000 = .ok (.fpIsValid 15) :=
  ⟨rfl, rfl, rfl, rfl, rfl, rfl, rfl, rfl, rfl, rfl, rfl, rfl, rfl, rfl, rfl⟩

/-- The words of the example table of 41_fp3.md. -/
theorem test_decode_cubicField :
    decode 0x30000000 = .ok (.fp3Zero 0) ∧
    decode 0x31000000 = .ok (.fp3One 0) ∧
    decode 0x32100000 = .ok (.fp3Mov 1 0) ∧
    decode 0x33000000 = .ok (.fp3Ld 0) ∧
    decode 0x34000000 = .ok (.fp3St 0) ∧
    decode 0x35002300 = .ok (.fp3Set 0 0 2 3) ∧
    decode 0x36500002 = .ok (.fp3Get 5 0 2) ∧
    decode 0x37201000 = .ok (.fp3Add 2 0 1) ∧
    decode 0x38201000 = .ok (.fp3Sub 2 0 1) ∧
    decode 0x39200000 = .ok (.fp3Double 2 0) ∧
    decode 0x3A200000 = .ok (.fp3Neg 2 0) ∧
    decode 0x3B201000 = .ok (.fp3LAdd 2 0 1) ∧
    decode 0x3C201000 = .ok (.fp3Mul 2 0 1) ∧
    decode 0x3D100000 = .ok (.fp3Square 1 0) ∧
    decode 0x3E200000 = .ok (.fp3Inv 2 0) ∧
    decode 0x3F102000 = .ok (.fp3Exp 1 0 2) ∧
    decode 0x40100001 = .ok (.fp3Frob 1 0 1) ∧
    decode 0x41201000 = .ok (.fp3Mul0 2 0 1) ∧
    decode 0x42001000 = .ok (.fp3Eq 0 1) ∧
    decode 0x43040000 = .ok (.fp3IsZero 4) ∧
    decode 0x44030000 = .ok (.fp3IsOne 3) :=
  ⟨rfl, rfl, rfl, rfl, rfl, rfl, rfl, rfl, rfl, rfl, rfl, rfl, rfl, rfl, rfl, rfl, rfl, rfl, rfl, rfl, rfl⟩

/-- The words of the example table of 42_fp6.md. -/
theorem test_decode_sexticField :
    decode 0x50000000 = .ok (.fp6Zero 0) ∧
    decode 0x51000000 = .ok (.fp6One 0) ∧
    decode 0x52100000 = .ok (.fp6Mov 1 0) ∧
    decode 0x53000000 = .ok (.fp6Ld 0) ∧
    decode 0x54000000 = .ok (.fp6St 0) ∧
    decode 0x55001000 = .ok (.fp6Set 0 0 1) ∧
    decode 0x56400001 = .ok (.fp6Get 4 0 1) ∧
    decode 0x57201000 = .ok (.fp6Add 2 0 1) ∧
    decode 0x58201000 = .ok (.fp6Sub 2 0 1) ∧
    decode 0x59200000 = .ok (.fp6Double 2 0) ∧
    decode 0x5A200000 = .ok (.fp6Neg 2 0) ∧
    decode 0x5B201000 = .ok (.fp6LAdd 2 0 1) ∧
    decode 0x5C201000 = .ok (.fp6Mul 2 0 1) ∧
    decode 0x5D200000 = .ok (.fp6Square 2 0) ∧
    decode 0x5E200000 = .ok (.fp6CycSq 2 0) ∧
    decode 0x5F200000 = .ok (.fp6Inv 2 0) ∧
    decode 0x60202000 = .ok (.fp6Exp 2 0 2) ∧
    decode 0x61200000 = .ok (.fp6Conj 2 0) ∧
    decode 0x62100001 = .ok (.fp6Frob 1 0 1) ∧
    decode 0x63045600 = .ok (.fp6Mul014 0 4 5 6) ∧
    decode 0x64045600 = .ok (.fp6Mul034 0 4 5 6) ∧
    decode 0x65012000 = .ok (.fp6Eq 1 2) ∧
    decode 0x66000000 = .ok (.fp6IsZero 0) ∧
    decode 0x67000000 = .ok (.fp6IsOne 0) ∧
    decode 0x68000000 = .ok (.fp6IsValid 0) :=
  ⟨rfl, rfl, rfl, rfl, rfl, rfl, rfl, rfl, rfl, rfl, rfl, rfl, rfl, rfl, rfl, rfl, rfl, rfl, rfl, rfl, rfl, rfl,
    rfl, rfl, rfl⟩

/-- The words of the example table of 43_curve.md. -/
theorem test_decode_points1 :
    decode 0x70000000 = .ok (.g1Zero 0) ∧
    decode 0x71100000 = .ok (.g1Gen 1) ∧
    decode 0x72210000 = .ok (.g1Mov 2 1) ∧
    decode 0x73000000 = .ok (.g1Ld 0) ∧
    decode 0x74010000 = .ok (.g1St 1) ∧
    decode 0x75012300 = .ok (.g1Set 0 1 2 3) ∧
    decode 0x76010002 = .ok (.g1Get 0 1 2) ∧
    decode 0x77000000 = .ok (.g1Add 0 0 0) ∧
    decode 0x78100000 = .ok (.g1Double 1 0) ∧
    decode 0x79100000 = .ok (.g1Neg 1 0) ∧
    decode 0x7A403000 = .ok (.g1Sub 4 0 3) ∧
    decode 0x7B100000 = .ok (.g1Affine 1 0) ∧
    decode 0x7C000000 = .ok (.g1IsOnCurve 0) ∧
    decode 0x7D000000 = .ok (.g1IsAffine 0) ∧
    decode 0x7E040000 = .ok (.g1IsInf 4) ∧
    decode 0x7F003000 = .ok (.g1Eq 0 3) ∧
    decode 0x90000000 = .ok (.g2Zero 0) :=
  ⟨rfl, rfl, rfl, rfl, rfl, rfl, rfl, rfl, rfl, rfl, rfl, rfl, rfl, rfl, rfl, rfl, rfl⟩

/-- The words of the example table of 43_curve.md. -/
theorem test_decode_points2 :
    decode 0x91100000 = .ok (.g2Gen 1) ∧
    decode 0x92210000 = .ok (.g2Mov 2 1) ∧
    decode 0x93000000 = .ok (.g2Ld 0) ∧
    decode 0x94010000 = .ok (.g2St 1) ∧
    decode 0x95012300 = .ok (.g2Set 0 1 2 3) ∧
    decode 0x96010002 = .ok (.g2Get 0 1 2) ∧
    decode 0x97000000 = .ok (.g2Add 0 0 0) ∧
    decode 0x98100000 = .ok (.g2Double 1 0) ∧
    decode 0x99100000 = .ok (.g2Neg 1 0) ∧
    decode 0x9A403000 = .ok (.g2Sub 4 0 3) ∧
    decode 0x9B100000 = .ok (.g2Affine 1 0) ∧
    decode 0x9C000000 = .ok (.g2IsOnCurve 0) ∧
    decode 0x9D000000 = .ok (.g2IsAffine 0) ∧
    decode 0x9E040000 = .ok (.g2IsInf 4) ∧
    decode 0x9F003000 = .ok (.g2Eq 0 3) :=
  ⟨rfl, rfl, rfl, rfl, rfl, rfl, rfl, rfl, rfl, rfl, rfl, rfl, rfl, rfl, rfl⟩

/-- The words of the example table of 44_msm.md. -/
theorem test_decode_scalarMultiples :
    decode 0x80310000 = .ok (.g1MulSc 3 1 0) ∧
    decode 0x81100000 = .ok (.g1ClrCof 1 0) ∧
    decode 0x82011002 = .ok (.g1Msm 0 1 1 2) ∧
    decode 0xA0100000 = .ok (.g2MulSc 1 0 0) ∧
    decode 0xA1100000 = .ok (.g2ClrCof 1 0) ∧
    decode 0xA2011002 = .ok (.g2Msm 0 1 1 2) ∧
    decode 0xA3030000 = .ok (.g2InSub 3) :=
  ⟨rfl, rfl, rfl, rfl, rfl, rfl, rfl⟩

/-- The words of the example table of 45_pairing.md. -/
theorem test_decode_pairing :
    decode 0xB0010000 = .ok (.pairAdd 1 0) ∧
    decode 0xB1001000 = .ok (.pairAddInv 0 1) ∧
    decode 0xB2000000 = .ok .pairReset ∧
    decode 0xB3000000 = .ok (.pairResult 0) ∧
    decode 0xB4000000 = .ok .pairCheck ∧
    decode 0xB5700000 = .ok (.pairMiller 7) ∧
    decode 0xB6100000 = .ok (.fexp 1 0) ∧
    decode 0xB7100000 = .ok (.fexpEasy 1 0) ∧
    decode 0xB8100000 = .ok (.fexpHard 1 0) :=
  ⟨rfl, rfl, rfl, rfl, rfl, rfl, rfl, rfl, rfl⟩

/-- The words of V3 that are illegal, each with the check of R89 that refuses it. -/
theorem test_decode_illegal :
    decode 0x00000001 = .error .fixedBits ∧ decode 0x03000001 = .error .fixedBits ∧
    decode 0x04800000 = .error .fixedBits ∧ decode 0x08000000 = .error .unassignedOpcode ∧
    decode 0x2F000000 = .error .unassignedOpcode ∧ decode 0x83000000 = .error .unassignedOpcode ∧
    decode 0xB9000000 = .error .unassignedOpcode ∧ decode 0xFFFFFFFF = .error .unassignedOpcode ∧
    decode 0x1A123001 = .error .fixedBits ∧ decode 0x1A123100 = .error .fixedBits ∧
    decode 0x30800000 = .error .fixedBits ∧ decode 0x24218000 = .error .fixedBits ∧
    decode 0x36520003 = .error .immediateLimit ∧ decode 0x56430002 = .error .immediateLimit ∧
    decode 0x82071002 = .error .msmRange ∧ decode 0x82011009 = .error .immediateLimit ∧
    decode 0xB2100000 = .error .fixedBits :=
  ⟨rfl, rfl, rfl, rfl, rfl, rfl, rfl, rfl, rfl, rfl, rfl, rfl, rfl, rfl, rfl, rfl, rfl⟩

/-- The words of V3 that are legal at the edge of a field. -/
theorem test_decode_edges :
    decode 0x01FFFFFF = .ok (.setPtr 0xFFFFFF) ∧ decode 0x047FFFFF = .ok (.scLdi 7 0xFFFFF) ∧
    decode 0x21FFF000 = .ok (.fpMul 15 15 15) ∧ decode 0x36520002 = .ok (.fp3Get 5 2 2) ∧
    decode 0x620000FF = .ok (.fp6Frob 0 0 255) ∧ decode 0x400000FF = .ok (.fp3Frob 0 0 255) ∧
    decode 0x82000000 = .ok (.g1Msm 0 0 0 0) ∧ decode 0x82070001 = .ok (.g1Msm 0 7 0 1) ∧
    decode 0xA2000008 = .ok (.g2Msm 0 0 0 8) :=
  ⟨rfl, rfl, rfl, rfl, rfl, rfl, rfl, rfl, rfl⟩

theorem test_decodeTableWord : decodeTableWord 32 0x21312000 = some (.fpMul 3 1 2) ∧ decodeTableWord 32 1 = none :=
  ⟨rfl, rfl⟩

/-- The word placed by `withFetchWord` is what the next step runs. -/
theorem test_withFetchWord : (match step (State.reset.withFetchWord 32 0x04100002) with
    | .next t => t.getSc 1 == 2 && t.host == []
    | _ => false) = true := by decide +kernel

/-! ### The constants of V1 and V2 -/

theorem test_constants :
    pub.inp = 0x0a5593568fa798dd ∧
    e 1 =
      0x0051f77ef127e87dd7a81ebb9f65a9df45848a63e711022f7b56588008b1c87c2352e7fe462f2103a74da5bfdcad3905c0e667a25248240bece9cb3e1d94b80bda6aff320ee47df49e996e43827faade5a5826358fff8ce70202ffffffff85d5 ∧
    pub.r2 =
      0x00ad253c2da8d8078f1b0953b886cda4121e5c630b103f50ac731bfa0c536dfeac52e458c6e57af92c7a26bf8c995976972c69400d5930ae4afb427b73a1ed40d6ec28f848329d887fa1e825c1d2b4597b14c9b2f79484abc686392d2d1fa659 ∧
    e (-4) =
      0x00fdf24e3267fa1e446f17918c5f57005c3a0745675e8452b7ab89dede485a9253abac78b24d4e236a66defed8b361f20979f350dcd36af130127ac071851e2dc79630bc713d5a1db1b4384fcbe29cf663c1e3faa001cd69e12e00000001e9c2 ∧
    quot 1 2 =
      0x00ba6fd1f655db445497f3fdd230548eff5551673471245be6ec6737c49cc35ec9e7471b95da050e558e305f8130ae0523b81847b2a110ce2f634f8d48c05b9d39860afa32a613765a53337936b8278b2074b24effffc6b4fb4fffffffffc330 := by
  decide +kernel

/-- `ω` is the residue of V1, and `ζ = ω + 1`. -/
theorem test_frobeniusConstants : pub.omega =
      0x00cfca638f1500e327035cdf02acb2744d06e68545f7e64c256ab7ae14297a1a823132b971cdefc65870636cb60d217ff87fa59308c07a8fab8579e02ed3cddca5b093ed79b1c57b5fe3f89c11811c1e214983de300000535e7bc00000000060 ∧
    pub.zeta = pub.omega + 1 := by decide +kernel

/-- The word-serial reduction of R112 on the operands V1 names. -/
theorem test_montSerial : pub.montSerial (2 * pub.pMod - 1) (2 * pub.pMod - 1) =
    pub.mont (2 * pub.pMod - 1) (2 * pub.pMod - 1) := by decide +kernel

/-- V2: 69 and 219 steps, 288 coefficients. -/
theorem test_loopCounts :
    (bitsBelowTop pub.ateLoop1).length = 63 ∧ ((bitsBelowTop pub.ateLoop1).filter (· ≠ .zero)).length = 6 ∧
    (naf pub.ateLoop2).length = 189 ∧ ((naf pub.ateLoop2).filter (· ≠ .zero)).length = 30 := by decide +kernel

/-- The total of R9 and R297, and what R10 asks of `r` beside being prime. -/
theorem test_lineTriples : pub.lineTriples = 288 ∧ (pub.pMod ^ 2 - pub.pMod + 1) % pub.rOrd = 0 ∧
    Nat.gcd pub.hardMult pub.rOrd = 1 := by decide +kernel

/-- The small cases of V2. -/
theorem test_naf :
    naf 1 = [] ∧ naf 2 = [.zero] ∧ naf 3 = [.minus, .zero] ∧ naf 6 = [.zero, .minus, .zero] ∧
    naf 7 = [.minus, .zero, .zero] ∧ naf 11 = [.minus, .zero, .minus, .zero] := by decide +kernel

/-! ### System and scalar commands (V4) -/

theorem test_nop : runs 0x00000000 { rs with cmdcnt := BitVec.allOnes 64 } (fun t => t.cmdcnt == 0) = true := by
  decide +kernel

theorem test_setPtr : runs 0x01000100 { rs with dptr := 7 } (fun t => t.dptr == 256) = true := by decide +kernel

theorem test_setLen : runs 0x02000060 rs (fun t => t.dlen == 96) = true := by decide +kernel

theorem test_clrErr : runs 0x03000000 { rs with err := 4, errcmd := 0x73000000, erridx := 2, flag := 0b101 }
    (fun t => t.err == 0 && t.errcmd == 0 && t.erridx == 0 && t.flag == 0b101) = true := by decide +kernel

theorem test_scLdi : runs 0x04100002 rs (fun t => t.getSc 1 == 2) = true := by decide +kernel

theorem test_scLd : runs 0x05700000 (loadedWith [1, 2]) (fun t => t.getSc 7 == 258) = true := by decide +kernel

theorem test_scLd_tooLong : runs 0x05700000 { rs.setSc 7 5 with dlen := 97 }
    (fun t => t.err == 1 && t.errcmd == 0x05700000 && t.getSc 7 == 5) = true := by decide +kernel

theorem test_scSt : runs 0x06010000 { rs.setSc 1 2 with dptr := 10, dmem := [(9, 7), (10, 8), (106, 9)] }
    (fun t => t.dmem == [(9, 7), (105, 2), (106, 9)]) = true := by decide +kernel

theorem test_scMov : runs 0x07210000 (rs.setSc 1 2) (fun t => t.getSc 2 == 2) = true := by decide +kernel

/-! ### Base field (V10 to V15) -/

theorem test_fpZero : runs 0x10000000 (rs.setFp 0 5) (fun t => t.getFp 0 == 0) = true := by decide +kernel

theorem test_fpOne : runs 0x11100000 rs (fun t => t.getFp 1 == e 1) = true := by decide +kernel

theorem test_fpModulus : runs 0x12200000 rs (fun t => t.getFp 2 ==
    0x0122e824fb83ce0ad187c94004faff3eb926186a81d14688528275ef8087be41707ba638e584e91903cebaff25b423048689c8ed12f9fd9071dcd3dc73ebff2e98a116c25667a8f8160cf8aeeaf0a437e6913e6870000082f49d00000000008b) = true := by
  decide +kernel

theorem test_fpMov : runs 0x13310000 (rs.setFp 1 (e 1)) (fun t => t.getFp 3 == e 1) = true := by decide +kernel

theorem test_fpLd : runs 0x14100000 (loadedWith [5]) (fun t => t.getFp 1 == 5) = true := by decide +kernel

theorem test_fpLd_invalid : runs 0x14100000 (loadedWith (List.replicate 96 0xFF))
    (fun t => t.getFp 1 == BitVec.allOnes 768 && t.err == 0) = true := by decide +kernel

theorem test_fpSt : runs 0x15030000 { rs.setFp 3 6 with dptr := 192 } (fun t => t.dmem == [(287, 6)]) = true := by
  decide +kernel

/-- Limb 1 of a register is bytes 80 to 87 of its string. -/
theorem test_fpSt_limb : runs 0x15030000 (rs.setFp 3 0x10000000000000000) (fun t => t.dmem == [(87, 1)]) = true := by
  decide +kernel

theorem test_fpFromSc : runs 0x16410000 (rs.setSc 1 5) (fun t => t.getFp 4 == 5) = true := by decide +kernel

theorem test_fpToSc : runs 0x17130000 (rs.setFp 3 p) (fun t => t.getSc 1 == p) = true := by decide +kernel

theorem test_fpToMont : (runs 0x18110000 (fps 2 0) (fun t => t.getFp 1 == e 2) &&
    runs 0x18110000 (fps (e 1) 0) (fun t => (t.getFp 1).toNat == pub.r2)) = true := by decide +kernel

theorem test_fpFromMont : runs 0x19330000 (rs.setFp 3 (e 6)) (fun t => t.getFp 3 == 6) = true := by decide +kernel

theorem test_fpAdd : (runs 0x1A312000 (fps (e 2) (e 3)) (fun t => t.getFp 3 == e 5) &&
    runs 0x1A312000 (fps (p - 1) 1) (fun t => t.getFp 3 == 0)) = true := by decide +kernel

theorem test_fpSub : (runs 0x1B312000 (fps (e 2) (e 3)) (fun t => t.getFp 3 == e (-1)) &&
    runs 0x1B312000 (fps (e 5) (e 3)) (fun t => t.getFp 3 == e 2)) = true := by decide +kernel

theorem test_fpDouble : (runs 0x1C200000 (rs.setFp 0 (e 3)) (fun t => t.getFp 2 == e 6) &&
    runs 0x1C200000 (rs.setFp 0 (p - 1)) (fun t => t.getFp 2 == p - 2)) = true := by decide +kernel

theorem test_fpNeg : (runs 0x1D100000 (rs.setFp 0 (e 1)) (fun t => t.getFp 1 == e (-1)) &&
    runs 0x1D100000 (rs.setFp 0 0) (fun t => t.getFp 1 == 0)) = true := by decide +kernel

theorem test_fpMul : (runs 0x21312000 (fps (e 2) (e 3)) (fun t => t.getFp 3 == e 6) &&
    runs 0x21312000 (fps (p + 2) (BitVec.ofNat 768 pub.r2)) (fun t => t.getFp 3 == e 2)) = true := by decide +kernel

/-- `mont(2, 3)` of V1. -/
theorem test_fpMul_raw : runs 0x21312000 (fps 2 3) (fun t => t.getFp 3 ==
    0x00b85e5b13203f48672a5cb4cdea4fa8cafedef591a9940ebed787482efe4bf3d230aadb1654e0d4f634b671b38039dab419acd9922e12226f51f0eef7d39dd797dbc875cae67b76e9c282e4903f2d515767023521c548451c1c2fc090bdd57a) = true := by
  decide +kernel

theorem test_fpSquare : (runs 0x22310000 (fps (e 2) 0) (fun t => t.getFp 3 == e 4) &&
    runs 0x22310000 (fps (e (-1)) 0) (fun t => t.getFp 3 == e 1)) = true := by decide +kernel

theorem test_fpInv : (runs 0x23000000 rs (fun t => t.getFp 0 == 0 && t.err == 0) &&
    runs 0x23000000 (rs.setFp 0 (e 2)) (fun t => t.getFp 0 == quot 1 2)) = true := by decide +kernel

theorem test_fpExp : (runs 0x24213000 ((fps (e 2) 0).setSc 3 2) (fun t => t.getFp 2 == e 4) &&
    runs 0x24213000 ((fps 0 0).setSc 3 0) (fun t => t.getFp 2 == e 1)) = true := by decide +kernel

theorem test_fpExp_modulus : runs 0x24213000 ((fps (e 3) 0).setSc 3 p) (fun t => t.getFp 2 == e 3) = true := by
  decide +kernel

/-- The root of 4 is −2, the one that is a square (R141). -/
theorem test_fpSqrt : runs 0x25430000 (rs.setFp 3 (e 4)) (fun t => flagB t.flag && t.getFp 4 == e (-2)) = true := by
  decide +kernel

theorem test_fpSqrt_nonResidue : runs 0x25430000 { rs.setFp 3 (e 2) with flag := 1 } (fun t => !flagB t.flag) = true := by
  decide +kernel

theorem test_fpIsQnr : (runs 0x26010000 (fps (e 2) 0) (fun t => flagB t.flag) &&
    runs 0x26010000 (fps 0 0) (fun t => !flagB t.flag)) = true := by decide +kernel

theorem test_fpMulNr : (runs 0x27100000 (rs.setFp 0 (e 1)) (fun t => t.getFp 1 == e (-4)) &&
    runs 0x27100000 (rs.setFp 0 (e 3)) (fun t => t.getFp 1 == e (-12))) = true := by decide +kernel

theorem test_fpCmp : (runs 0x28012000 { fps (e 1) (e 2) with flag := 1 } (fun t => t.flag == 0b111) &&
    runs 0x28012000 (fps (e 2) (e 1)) (fun t => t.flag == 0b010) &&
    runs 0x28012000 { fps p p with flag := 0b111 } (fun t => t.flag == 0b001)) = true := by decide +kernel

theorem test_fpEq : (runs 0x29012000 (fps (e 5) (e 5 + p)) (fun t => !flagB t.flag) &&
    runs 0x29012000 { fps (e 1) (e 1) with flag := 0b110 } (fun t => t.flag == 0b111)) = true := by decide +kernel

theorem test_fpIsZero : (runs 0x2A000000 rs (fun t => flagB t.flag) &&
    runs 0x2A000000 (rs.setFp 0 p) (fun t => !flagB t.flag)) = true := by decide +kernel

theorem test_fpIsOne : (runs 0x2B010000 (fps (e 1) 0) (fun t => flagB t.flag) &&
    runs 0x2B010000 (fps 1 0) (fun t => !flagB t.flag)) = true := by decide +kernel

theorem test_fpIsOdd : (runs 0x2C010000 (fps (e 1) 0) (fun t => flagB t.flag) &&
    runs 0x2C010000 (fps (e 2) 0) (fun t => !flagB t.flag)) = true := by decide +kernel

theorem test_fpIsEven : (runs 0x2D010000 (fps 6 0) (fun t => flagB t.flag) &&
    runs 0x2D010000 (fps (e 1) 0) (fun t => !flagB t.flag)) = true := by decide +kernel

theorem test_fpIsValid : (runs 0x2E0F0000 (rs.setFp 15 (p - 1)) (fun t => flagB t.flag) &&
    runs 0x2E0F0000 (rs.setFp 15 p) (fun t => !flagB t.flag)) = true := by decide +kernel

/-- What a lazy command leaves: a value of the set of V14, whichever free value comes. -/
theorem lazy_answer (s : State) (rd : FpIdx) {exact' named a : Nat} (hc : s.cfg = pub)
    (hm : isLazyOf pub exact' (BitVec.ofNat 768 named) = true) (ha : exact' % pub.pMod = a % pub.pMod) :
    ∃ v : Fp, fpLazy true exact' named rd s = .next ((s.setFp rd v).spend 1).counted ∧ isLazyOf pub a v = true := by
  refine ⟨_, rfl, ?_⟩
  have h := draw_mem (member := isLazyOf s.cfg exact') (by rw [hc]; exact hm) (s.free 0)
  rw [isLazyOf, ← ha, ← hc]
  exact h

theorem test_fpLAdd : ∃ v : Fp, execWord 0x1E312000 (fps (e 2) (e 3)) =
    .next (((fps (e 2) (e 3)).setFp 3 v).spend 1).counted ∧ isLazyOf pub (e 5).toNat v = true := by
  have h : (valid (fps (e 2) (e 3)).cfg ((fps (e 2) (e 3)).getFp 1) &&
    valid (fps (e 2) (e 3)).cfg ((fps (e 2) (e 3)).getFp 2)) = true := by decide +kernel
  rw [execWord_of (i := .fpLAdd 3 1 2) rfl, exec, execFpLAdd, h]
  exact lazy_answer _ _ (by decide +kernel) (by decide +kernel) (by decide +kernel)

theorem test_fpLDouble : ∃ v : Fp, execWord 0x1F320000 (fps 0 (e 3)) =
    .next (((fps 0 (e 3)).setFp 3 v).spend 1).counted ∧ isLazyOf pub (e 6).toNat v = true := by
  have h : valid (fps 0 (e 3)).cfg ((fps 0 (e 3)).getFp 2) = true := by decide +kernel
  rw [execWord_of (i := .fpLDouble 3 2) rfl, exec, execFpLDouble, h]
  exact lazy_answer _ _ (by decide +kernel) (by decide +kernel) (by decide +kernel)

theorem test_fpLSub : ∃ v : Fp, execWord 0x20311000 (fps (e 1) 0) =
    .next (((fps (e 1) 0).setFp 3 v).spend 1).counted ∧ isLazyOf pub 0 v = true := by
  have h : (valid (fps (e 1) 0).cfg ((fps (e 1) 0).getFp 1) &&
    valid (fps (e 1) 0).cfg ((fps (e 1) 0).getFp 1)) = true := by decide +kernel
  rw [execWord_of (i := .fpLSub 3 1 1) rfl, exec, execFpLSub, h]
  exact lazy_answer _ _ (by decide +kernel) (by decide +kernel) (by decide +kernel)

/-- V14: both members of the set of `FP.LADD` on `enc(2)`, `enc(3)`, and a value outside. -/
theorem test_lazySet : isLazyOf pub (e 5).toNat (e 5) = true ∧ isLazyOf pub (e 5).toNat (e 5 + p) = true ∧
    isLazyOf pub (e 2).toNat (e 2 + p + p) = false := by decide +kernel

/-! ### Cubic extension (V16) -/

theorem test_fp3Zero : runs 0x30000000 (cubics cA cB) (fun t => t.getFp3 0 == ⟨0, 0, 0⟩) = true := by decide +kernel

theorem test_fp3One : runs 0x31000000 (cubics cA cB) (fun t => t.getFp3 0 == e3 1 0 0) = true := by decide +kernel

theorem test_fp3Mov : runs 0x32100000 (cubics cA cB) (fun t => t.getFp3 1 == cA) = true := by decide +kernel

theorem test_fp3Ld : runs 0x33000000 { rs with dlen := 288, dmem := [(95, 1), (191, 2), (192, 3)] }
    (fun t => t.getFp3 0 == ⟨1, 2, BitVec.ofNat 768 3 <<< 760⟩) = true := by decide +kernel

theorem test_fp3Ld_length : (runs 0x33000000 { rs with dlen := 287 } (fun t => t.err == 1) &&
    runs 0x33000000 { rs with dlen := 289 } (fun t => t.err == 1)) = true := by decide +kernel

theorem test_fp3St : runs 0x34000000 (cubics ⟨1, 2, 3⟩ cB) (fun t => t.dmem == [(95, 1), (191, 2), (287, 3)]) = true := by
  decide +kernel

theorem test_fp3Set : runs 0x35002300 (((rs.setFp 0 (e 1)).setFp 2 (e 2)).setFp 3 (e 3))
    (fun t => t.getFp3 0 == cA) = true := by decide +kernel

theorem test_fp3Get : runs 0x36500002 (cubics cA cB) (fun t => t.getFp 5 == e 3) = true := by decide +kernel

theorem test_fp3Add : runs 0x37201000 (cubics cA cB) (fun t => t.getFp3 2 == e3 5 7 9) = true := by decide +kernel

theorem test_fp3Sub : runs 0x38201000 (cubics cA cB) (fun t => t.getFp3 2 == e3 (-3) (-3) (-3)) = true := by
  decide +kernel

theorem test_fp3Double : runs 0x39200000 (cubics cA cB) (fun t => t.getFp3 2 == e3 2 4 6) = true := by decide +kernel

theorem test_fp3Neg : (runs 0x3A200000 (cubics cA cB) (fun t => t.getFp3 2 == e3 (-1) (-2) (-3)) &&
    runs 0x3A200000 (cubics (e3 0 2 0) cB) (fun t => t.getFp3 2 == e3 0 (-2) 0)) = true := by decide +kernel

/-- A lazy sum is a value of the set of V14, whichever free value comes. -/
theorem lazyAdd_set (x y free : Fp) {a : Nat}
    (hm : isLazyOf pub (x.toNat + y.toNat) (BitVec.ofNat 768 (x.toNat + y.toNat)) = true)
    (ha : (x.toNat + y.toNat) % pub.pMod = a % pub.pMod) : isLazyOf pub a (lazyAdd pub x y free) = true := by
  have h := draw_mem hm free
  rw [isLazyOf, ← ha]
  exact h

theorem test_fp3LAdd (x y z : Fp) : isLazyOf pub (e 5).toNat (lazyAdd pub cA.c0 cB.c0 x) = true ∧
    isLazyOf pub (e 7).toNat (lazyAdd pub cA.c1 cB.c1 y) = true ∧
    isLazyOf pub (e 9).toNat (lazyAdd pub cA.c2 cB.c2 z) = true :=
  ⟨lazyAdd_set _ _ _ (by decide +kernel) (by decide +kernel), lazyAdd_set _ _ _ (by decide +kernel) (by decide +kernel),
    lazyAdd_set _ _ _ (by decide +kernel) (by decide +kernel)⟩

theorem test_fp3Mul : (runs 0x3C201000 (cubics cA cB) (fun t => t.getFp3 2 == e3 (-104) (-59) 28) &&
    runs 0x3C201000 (cubics (e3 0 1 0) (e3 0 0 1)) (fun t => t.getFp3 2 == e3 (-4) 0 0)) = true := by decide +kernel

theorem test_fp3Square : runs 0x3D100000 (cubics cA cB) (fun t => t.getFp3 1 == e3 (-47) (-32) 10) = true := by
  decide +kernel

theorem test_fp3Inv : (runs 0x3E200000 (cubics cA cB)
      (fun t => t.getFp3 2 == ⟨quot 25 473, quot (-38) 473, quot 1 473⟩) &&
    runs 0x3E200000 (cubics (e3 0 0 0) cB) (fun t => t.getFp3 2 == ⟨0, 0, 0⟩)) = true := by decide +kernel

theorem test_fp3Exp : (runs 0x3F102000 ((cubics cA cB).setSc 2 2) (fun t => t.getFp3 1 == e3 (-47) (-32) 10) &&
    runs 0x3F102000 ((cubics (e3 0 0 0) cB).setSc 2 0) (fun t => t.getFp3 1 == e3 1 0 0)) = true := by decide +kernel

/-- `ω² = −ω − 1` (V1), so the component 2 is −3ω − 3. -/
theorem test_fp3Frob : runs 0x40100001 (cubics cA cB) (fun t => t.getFp3 1 ==
    ⟨e 1, pub.enc (2 * pub.omega), e (-3 * (pub.omega : Int) - 3)⟩) = true := by decide +kernel

theorem test_fp3Frob_255 : runs 0x401000FF (cubics cA cB) (fun t => t.getFp3 1 == cA) = true := by decide +kernel

/-- Components 1 and 2 of the second operand are not read. -/
theorem test_fp3Mul0 : runs 0x41201000 (cubics cA ⟨e 7, BitVec.allOnes 768, p + p⟩)
    (fun t => t.getFp3 2 == e3 7 14 21) = true := by decide +kernel

theorem test_fp3Eq : (runs 0x42001000 (cubics cA cA) (fun t => flagB t.flag) &&
    runs 0x42001000 (cubics cA cB) (fun t => !flagB t.flag)) = true := by decide +kernel

theorem test_fp3IsZero : (runs 0x43040000 rs (fun t => flagB t.flag) &&
    runs 0x43040000 (rs.setFp3 4 (e3 0 0 1)) (fun t => !flagB t.flag)) = true := by decide +kernel

theorem test_fp3IsOne : (runs 0x44030000 (rs.setFp3 3 (e3 1 0 0)) (fun t => flagB t.flag) &&
    runs 0x44030000 (rs.setFp3 3 ⟨1, 0, 0⟩) (fun t => !flagB t.flag)) = true := by decide +kernel

/-! ### Sextic extension (V25, V30) -/

theorem test_fp6Zero : runs 0x50000000 (sextics sA sB) (fun t => t.getFp6 0 == sZero) = true := by decide +kernel

theorem test_fp6One : runs 0x51000000 (sextics sA sB) (fun t => t.getFp6 0 == sOne) = true := by decide +kernel

theorem test_fp6Mov : runs 0x52100000 (sextics sA sB) (fun t => t.getFp6 1 == sA) = true := by decide +kernel

theorem test_fp6Ld : runs 0x53000000 { rs with dlen := 576, dmem := [(95, 1), (383, 4), (575, 6)] }
    (fun t => t.getFp6 0 == ⟨⟨1, 0, 0⟩, ⟨4, 0, 6⟩⟩) = true := by decide +kernel

theorem test_fp6Ld_length : runs 0x53000000 { rs with dlen := 575 } (fun t => t.err == 1) = true := by decide +kernel

theorem test_fp6St : runs 0x54000000 (sextics ⟨⟨1, 2, 3⟩, ⟨4, 5, 6⟩⟩ sB) (fun t =>
    t.dmem == [(95, 1), (191, 2), (287, 3), (383, 4), (479, 5), (575, 6)]) = true := by decide +kernel

theorem test_fp6Set : runs 0x55001000 (cubics cA cB) (fun t => t.getFp6 0 == sA) = true := by decide +kernel

theorem test_fp6Get : runs 0x56400001 (sextics sA sB) (fun t => t.getFp3 4 == cB) = true := by decide +kernel

theorem test_fp6Add : runs 0x57201000 (sextics sA sB) (fun t => t.getFp6 2 == e6 8 10 12 14 16 18) = true := by
  decide +kernel

theorem test_fp6Sub : runs 0x58201000 (sextics sA sB)
    (fun t => t.getFp6 2 == e6 (-6) (-6) (-6) (-6) (-6) (-6)) = true := by decide +kernel

theorem test_fp6Double : runs 0x59200000 (sextics sA sB) (fun t => t.getFp6 2 == e6 2 4 6 8 10 12) = true := by
  decide +kernel

theorem test_fp6Neg : runs 0x5A200000 (sextics sA sB)
    (fun t => t.getFp6 2 == e6 (-1) (-2) (-3) (-4) (-5) (-6)) = true := by decide +kernel

theorem test_fp6Mul : (runs 0x5C201000 (sextics sA sB)
      (fun t => t.getFp6 2 == e6 (-813) (-550) (-148) (-562) (-262) 182) &&
    runs 0x5C201000 (sextics sW sW) (fun t => t.getFp6 2 == e6 0 1 0 0 0 0)) = true := by decide +kernel

theorem test_fp6Square : runs 0x5D200000 (sextics sA sB)
    (fun t => t.getFp6 2 == e6 (-339) (-256) (-94) (-208) (-118) 56) = true := by decide +kernel

theorem test_fp6CycSq : runs 0x5E200000 (sextics sOne sB) (fun t => t.getFp6 2 == sOne) = true := by decide +kernel

/-- `FP6.CYCSQ A` is a draw: `A` is not in the cyclotomic subgroup (V25). -/
theorem test_fp6CycSq_draw : pub.isCyclotomic (pub.dec6 sA) = false := by decide +kernel

theorem test_fp6Inv : (runs 0x5F200000 (sextics sW sB) (fun t => t.getFp6 2 == ⟨⟨0, 0, 0⟩, ⟨0, 0, quot (-1) 4⟩⟩) &&
    runs 0x5F200000 (sextics sZero sB) (fun t => t.getFp6 2 == sZero)) = true := by decide +kernel

theorem test_fp6Exp : (runs 0x60202000 ((sextics sW sB).setSc 2 6) (fun t => t.getFp6 2 == e6 (-4) 0 0 0 0 0) &&
    runs 0x60202000 ((sextics sZero sB).setSc 2 0) (fun t => t.getFp6 2 == sOne)) = true := by decide +kernel

theorem test_fp6Conj : runs 0x61200000 (sextics sA sB) (fun t => t.getFp6 2 == e6 1 2 3 (-4) (-5) (-6)) = true := by
  decide +kernel

/-- `((1, 2ω, 3ω²), (4ζ, −5, −6ω))` with `ω² = −ω − 1`, `ζ = ω + 1` (V1, V25). -/
theorem test_fp6Frob : runs 0x62100001 (sextics sA sB) (fun t =>
    let w : Int := pub.omega
    t.getFp6 1 == e6 1 (2 * w) (-3 * w - 3) (4 * w + 4) (-5) (-6 * w)) = true := by decide +kernel

/-- Against the direct power (S6). -/
theorem test_fp6Frob_power : runs 0x62100001 (sextics sA sB)
    (fun t => pub.dec6 (t.getFp6 1) == pub.pow6 (pub.dec6 sA) pub.pMod) = true := by decide +kernel

/-- The coefficients 2, 3, 5 of V30. -/
def sparseState : State := (((sextics sA sB).setFp 4 (e 2)).setFp 5 (e 3)).setFp 6 (e 5)

theorem test_fp6Mul014 : runs 0x63045600 sparseState
    (fun t => t.getFp6 0 == e6 (-134) (-113) 32 (-124) 27 37) = true := by decide +kernel

theorem test_fp6Mul034 : runs 0x64045600 sparseState
    (fun t => t.getFp6 0 == e6 (-170) (-104) 41 (-49) 21 31) = true := by decide +kernel

theorem test_fp6Eq : runs 0x65012000 ((rs.setFp6 1 sA).setFp6 2 sA) (fun t => flagB t.flag) = true := by
  decide +kernel

theorem test_fp6IsZero : (runs 0x66000000 (sextics sA sB) (fun t => !flagB t.flag) &&
    runs 0x66000000 (sextics sZero sB) (fun t => flagB t.flag)) = true := by decide +kernel

theorem test_fp6IsOne : runs 0x67000000 (sextics sOne sB) (fun t => flagB t.flag) = true := by decide +kernel

theorem test_fp6IsValid : (runs 0x68000000 (sextics sOne sB) (fun t => flagB t.flag) &&
    runs 0x68000000 (sextics sZero sB) (fun t => !flagB t.flag) &&
    runs 0x68000000 (sextics sA sB) (fun t => !flagB t.flag)) = true := by decide +kernel

/-! ### Points (V20 to V22) -/

/-- A point result: the command draws from the class of the triple `t`, whose affine form is `a` (R226, R227). -/
def AnswersClass (w : Word) (s : State) (g : CurveGroup) (rd : Idx) (t : Point Nat) (a : Point Fp) : Prop :=
  execWord w s = .next (s.drawPoint g rd t).counted ∧ inClass s.cfg t (t.map s.cfg.enc) = true ∧
    (s.cfg.affine t).map s.cfg.enc = a

theorem answersClass {w : Word} {i : Instr} {s : State} {g : CurveGroup} {rd : Idx} {t t' : Point Nat} {a : Point Fp}
    (hw : decode w = .ok i) (he : exec i s = .next (s.drawPoint g rd t').counted) (ht : t' = t)
    (hm : inClass s.cfg t (t.map s.cfg.enc) = true) (ha : (s.cfg.affine t).map s.cfg.enc = a) :
    AnswersClass w s g rd t a := ⟨by rw [execWord_of hw, he, ht], hm, ha⟩

theorem test_g1Zero : runs 0x70000000 rs (fun t => t.getPoint .g1 0 == inf) = true := by decide +kernel

/-- The configured generators are `G1T`, `G2T` (V20). -/
theorem test_g1Gen : runs 0x71100000 rs (fun t => t.getPoint .g1 1 == g1T) = true := by decide +kernel

theorem test_g1Mov : runs 0x72210000 (rs.setPoint .g1 1 ⟨5, p, 7⟩) (fun t => t.getPoint .g1 2 == ⟨5, p, 7⟩) = true := by
  decide +kernel

/-- The order-2 point: its string is not all zero and passes the check (V21). -/
theorem test_g1Ld : (runs 0x73000000 { g1s g1T inf with dlen := 192 } (fun t => t.getPoint .g1 0 == inf) &&
    runs 0x73000000 (loadedWith (fpBytes (e 1) ++ List.replicate 96 0)) (fun t => t.getPoint .g1 0 == t2)) = true := by
  decide +kernel

/-- 1 ≠ 1 − 1, and a coordinate of `p` (V21): code 2 and the register as before. -/
theorem test_g1Ld_notOnCurve :
    (runs 0x73000000 { loadedWith (fpBytes p ++ List.replicate 96 0) with g1 := (g1s g1T inf).g1 }
      (fun t => t.err == 2 && t.errcmd == 0x73000000 && t.getPoint .g1 0 == g1T) &&
    runs 0x73000000 { rs with dlen := 192, dmem := [(95, 1), (191, 1)] } (fun t => t.err == 2)) = true := by
  decide +kernel

theorem test_g1St : runs 0x74010000 { rs.setPoint .g1 1 ⟨5, 7, 0⟩ with dmem := [(0, 1), (191, 2), (192, 3)] }
    (fun t => t.dmem == [(192, 3)]) = true := by decide +kernel

/-- The stored coordinates are those of the affine form; the register is kept (V21). -/
theorem test_g1St_scaled : runs 0x74010000 (rs.setPoint .g1 1 (scaled g1T)) (fun t =>
    be (memRead t.dmem 0 96) == g1T.x.toNat && be (memRead t.dmem 96 96) == g1T.y.toNat &&
    t.getPoint .g1 1 == scaled g1T) = true := by decide +kernel

theorem test_g1Set : runs 0x75012300 ((fps 5 p).setFp 3 7) (fun t => t.getPoint .g1 0 == ⟨5, p, 7⟩) = true := by
  decide +kernel

theorem test_g1Get : runs 0x76010002 (rs.setPoint .g1 1 g1T) (fun t => t.getFp 0 == e 1) = true := by decide +kernel

/-- `P + P` is the doubling case; the affine form is that of V20. -/
theorem test_g1Add : AnswersClass 0x77000000 (g1s g1T g1T) .g1 0
    (pub.addPoint (g1T.map pub.dec) (g1T.map pub.dec)) g1T2 :=
  answersClass (i := .g1Add 0 0 0) rfl (pointAdd_inDomain _ _ _ _ _ (by decide +kernel)) (by decide +kernel)
    (by decide +kernel) (by decide +kernel)

/-- `2·P + P − 2·P = P`, through the chord case and the inverse of it. -/
theorem test_addPoint_chord :
    let t := g1T.map pub.dec
    let d := pub.double t
    pub.samePoint (pub.addPoint (pub.addPoint d t) (pub.negPoint d)) t = true ∧
    (pub.addPoint t (pub.negPoint t)).z = 0 ∧ pub.addPoint pub.infinity t = t := by decide +kernel

theorem test_g1Double : AnswersClass 0x78100000 (g1s t2 inf) .g1 1 (pub.double (t2.map pub.dec)) inf :=
  answersClass (i := .g1Double 1 0) rfl (pointDouble_inDomain _ _ _ _ (by decide +kernel)) (by decide +kernel)
    (by decide +kernel) (by decide +kernel)

theorem test_g1Neg : runs 0x79100000 (g1s inf inf) (fun t => t.getPoint .g1 1 == ⟨0, e (-1), 0⟩) = true := by
  decide +kernel

theorem test_g1Sub : AnswersClass 0x7A403000 (g1s g1T (scaled g1T)) .g1 4
    (pub.addPoint (g1T.map pub.dec) (pub.negPoint ((scaled g1T).map pub.dec))) inf :=
  answersClass (i := .g1Sub 4 0 3) rfl (pointSub_inDomain _ _ _ _ _ (by decide +kernel)) (by decide +kernel)
    (by decide +kernel) (by decide +kernel)

theorem test_g1Affine : (runs 0x7B100000 (g1s (scaled g1T) inf) (fun t => t.getPoint .g1 1 == g1T) &&
    runs 0x7B100000 (g1s ⟨5, 7, 0⟩ inf) (fun t => t.getPoint .g1 1 == inf)) = true := by decide +kernel

theorem test_g1IsOnCurve : (runs 0x7C000000 (g1s ⟨e 1, e 1, e 1⟩ inf) (fun t => !flagB t.flag) &&
    runs 0x7C000000 (g1s inf inf) (fun t => flagB t.flag) &&
    runs 0x7C000000 (g1s t3 inf) (fun t => !flagB t.flag)) = true := by decide +kernel

theorem test_g1IsAffine : (runs 0x7D000000 (g1s ⟨5, p, e 1⟩ inf) (fun t => flagB t.flag) &&
    runs 0x7D000000 (g1s ⟨5, p, 1⟩ inf) (fun t => !flagB t.flag)) = true := by decide +kernel

theorem test_g1IsInf : (runs 0x7E040000 (rs.setPoint .g1 4 ⟨5, p, 0⟩) (fun t => flagB t.flag) &&
    runs 0x7E040000 (rs.setPoint .g1 4 g1T) (fun t => !flagB t.flag)) = true := by decide +kernel

theorem test_g1Eq : (runs 0x7F003000 (g1s (scaled g1T) g1T) (fun t => flagB t.flag) &&
    runs 0x7F003000 (g1s g1T g1T2) (fun t => !flagB t.flag) &&
    runs 0x7F003000 (g1s inf ⟨5, 7, 0⟩) (fun t => flagB t.flag)) = true := by decide +kernel

theorem test_g2Zero : runs 0x90000000 rs (fun t => t.getPoint .g2 0 == inf) = true := by decide +kernel

theorem test_g2Gen : runs 0x91100000 rs (fun t => t.getPoint .g2 1 == g2T) = true := by decide +kernel

theorem test_g2Mov : runs 0x92210000 (rs.setPoint .g2 1 ⟨5, p, 7⟩) (fun t => t.getPoint .g2 2 == ⟨5, p, 7⟩) = true := by
  decide +kernel

/-- The order-3 point `T3`, which is on the curve of G2 only (V21). -/
theorem test_g2Ld : (runs 0x93000000 (loadedWith (List.replicate 96 0 ++ fpBytes (e 2)))
      (fun t => t.getPoint .g2 0 == t3) &&
    runs 0x73000000 (loadedWith (List.replicate 96 0 ++ fpBytes (e 2))) (fun t => t.err == 2)) = true := by
  decide +kernel

theorem test_g2St : runs 0x94010000 { rs.setPoint .g2 1 ⟨5, 7, 0⟩ with dmem := [(0, 1), (191, 2), (192, 3)] }
    (fun t => t.dmem == [(192, 3)]) = true := by decide +kernel

theorem test_g2Set : runs 0x95012300 ((fps 5 p).setFp 3 7) (fun t => t.getPoint .g2 0 == ⟨5, p, 7⟩) = true := by
  decide +kernel

theorem test_g2Get : runs 0x96010002 (rs.setPoint .g2 1 g2T) (fun t => t.getFp 0 == e 1) = true := by decide +kernel

/-- `Q + Q` has the affine form of `2·Q`. -/
theorem test_g2Add : AnswersClass 0x97000000 (g2s g2T g2T) .g2 0 (pub.addPoint (g2T.map pub.dec) (g2T.map pub.dec))
    ((pub.affine (pub.double (g2T.map pub.dec))).map pub.enc) :=
  answersClass (i := .g2Add 0 0 0) rfl (pointAdd_inDomain _ _ _ _ _ (by decide +kernel)) (by decide +kernel)
    (by decide +kernel) (by decide +kernel)

theorem test_g2Double : AnswersClass 0x98100000 (g2s t3 inf) .g2 1 (pub.double (t3.map pub.dec)) ⟨0, e (-2), e 1⟩ :=
  answersClass (i := .g2Double 1 0) rfl (pointDouble_inDomain _ _ _ _ (by decide +kernel)) (by decide +kernel)
    (by decide +kernel) (by decide +kernel)

theorem test_g2Neg : runs 0x99100000 (g2s inf inf) (fun t => t.getPoint .g2 1 == ⟨0, e (-1), 0⟩) = true := by
  decide +kernel

theorem test_g2Sub : AnswersClass 0x9A403000 (g2s g2T (scaled g2T)) .g2 4
    (pub.addPoint (g2T.map pub.dec) (pub.negPoint ((scaled g2T).map pub.dec))) inf :=
  answersClass (i := .g2Sub 4 0 3) rfl (pointSub_inDomain _ _ _ _ _ (by decide +kernel)) (by decide +kernel)
    (by decide +kernel) (by decide +kernel)

theorem test_g2Affine : (runs 0x9B100000 (g2s (scaled g2T) inf) (fun t => t.getPoint .g2 1 == g2T) &&
    runs 0x9B100000 (g2s ⟨5, 7, 0⟩ inf) (fun t => t.getPoint .g2 1 == inf)) = true := by decide +kernel

theorem test_g2IsOnCurve : (runs 0x9C000000 (g2s ⟨e 1, e 1, e 1⟩ inf) (fun t => !flagB t.flag) &&
    runs 0x9C000000 (g2s t3 inf) (fun t => flagB t.flag)) = true := by decide +kernel

theorem test_g2IsAffine : (runs 0x9D000000 (g2s ⟨5, p, e 1⟩ inf) (fun t => flagB t.flag) &&
    runs 0x9D000000 (g2s ⟨5, p, 1⟩ inf) (fun t => !flagB t.flag)) = true := by decide +kernel

theorem test_g2IsInf : (runs 0x9E040000 (rs.setPoint .g2 4 ⟨5, p, 0⟩) (fun t => flagB t.flag) &&
    runs 0x9E040000 (rs.setPoint .g2 4 g2T) (fun t => !flagB t.flag)) = true := by decide +kernel

theorem test_g2Eq : (runs 0x9F003000 (g2s (scaled g2T) g2T) (fun t => flagB t.flag) &&
    runs 0x9F003000 (g2s g2T inf) (fun t => !flagB t.flag)) = true := by decide +kernel

/-! ### Scalar multiples (V35) -/

/-- `2·P` by the scalar 2 has the coordinates of V20. -/
theorem test_g1MulSc : AnswersClass 0x80310000 ((rs.setPoint .g1 1 g1T).setSc 0 2) .g1 3
    (pub.mulPoint 2 (g1T.map pub.dec)) g1T2 :=
  answersClass (i := .g1MulSc 3 1 0) rfl (pointMulSc_inDomain _ _ _ _ _ (by decide +kernel)) (by decide +kernel)
    (by decide +kernel) (by decide +kernel)

/-- The scalar 0 gives infinity; `(2, y)` is outside the subgroup. -/
theorem test_mulPoint : pub.mulPoint 0 (g1T.map pub.dec) = pub.infinity ∧
    pub.inSubgroup pub.bG1 (g1T.map pub.dec) = true ∧ (pub.mulPoint pub.rOrd (g1Other.map pub.dec)).z ≠ 0 ∧
    pub.onCurve pub.bG1 (g1Other.map pub.dec) = true := by decide +kernel

/-- `H_G1·(2, y) = G1T` (V35). -/
theorem test_g1ClrCof : AnswersClass 0x81100000 (g1s g1Other inf) .g1 1
    (pub.mulPoint pub.hG1 (g1Other.map pub.dec)) g1T :=
  answersClass (i := .g1ClrCof 1 0) rfl (pointClrCof_inDomain _ _ _ _ (by decide +kernel)) (by decide +kernel)
    (by decide +kernel) (by decide +kernel)

/-- `p1 = p2 = G1T`, `k1 = 2`, `k2 = 3` (V35). -/
def msmState : State := ((((rs.setPoint .g1 1 g1T).setPoint .g1 2 g1T).setPoint .g2 1 g2T).setPoint .g2 2 g2T).setSc 1 2
  |>.setSc 2 3

/-- The sum is `5·P`. -/
theorem test_g1Msm : AnswersClass 0x82011002 msmState .g1 0
    (pub.sumMultiples [(2, g1T.map pub.dec), (3, g1T.map pub.dec)])
    ((pub.affine (pub.mulPoint 5 (g1T.map pub.dec))).map pub.enc) :=
  answersClass (i := .g1Msm 0 1 1 2) rfl
    (pointMsm_inDomain msmState (encode (.g1Msm 0 1 1 2)) .g1 0 1 1 2 (by decide) (by decide +kernel) (by decide +kernel)) (by decide +kernel)
    (by decide +kernel) (by decide +kernel)

/-- The bucket method of R272, over all its windows: `(r + 1)·P + 1·P` has the coordinates of `2·P` in V20. -/
theorem test_bucketSum : (pub.affine (pub.bucketSum [(pub.rOrd + 1, g1T.map pub.dec), (1, g1T.map pub.dec)])).map pub.enc =
    g1T2 := by decide +kernel

/-- The register ranges `ra`, `rb` are checked by the meaning too, not only by the decoder (R88). -/
theorem test_g1Msm_range : exec (.g1Msm 0 7 1 2) rs =
    .next (errorEntry .illegalCommand (encode (.g1Msm 0 7 1 2)) rs) := raise_eq ..

/-- The scalar `r` gives infinity. -/
theorem test_g2MulSc : AnswersClass 0xA0100000 ((g2s g2T inf).setSc 0 (BitVec.ofNat 768 pub.rOrd)) .g2 1
    (pub.mulPoint pub.rOrd (g2T.map pub.dec)) inf :=
  answersClass (i := .g2MulSc 1 0 0) rfl (pointMulSc_inDomain _ _ _ _ _ (by decide +kernel)) (by decide +kernel)
    (by decide +kernel) (by decide +kernel)

/-- `H_G2·(1, y') = G2T` (V35). -/
theorem test_g2ClrCof : AnswersClass 0xA1100000 (g2s g2Other inf) .g2 1
    (pub.mulPoint pub.hG2 (g2Other.map pub.dec)) g2T :=
  answersClass (i := .g2ClrCof 1 0) rfl (pointClrCof_inDomain _ _ _ _ (by decide +kernel)) (by decide +kernel)
    (by decide +kernel) (by decide +kernel)

theorem test_g2Msm : AnswersClass 0xA2011002 msmState .g2 0
    (pub.sumMultiples [(2, g2T.map pub.dec), (3, g2T.map pub.dec)])
    ((pub.affine (pub.mulPoint 5 (g2T.map pub.dec))).map pub.enc) :=
  answersClass (i := .g2Msm 0 1 1 2) rfl
    (pointMsm_inDomain msmState (encode (.g2Msm 0 1 1 2)) .g2 0 1 1 2 (by decide) (by decide +kernel) (by decide +kernel)) (by decide +kernel)
    (by decide +kernel) (by decide +kernel)

theorem test_g2InSub : (runs 0xA3030000 (g2s inf g2T) (fun t => flagB t.flag) &&
    runs 0xA3030000 (g2s g2T inf) (fun t => flagB t.flag) &&
    runs 0xA3030000 (g2s inf g2Other) (fun t => !flagB t.flag) &&
    runs 0xA3030000 (g2s inf t3) (fun t => !flagB t.flag)) = true := by decide +kernel

/-! ### Pairing (V41 to V47) -/

theorem test_pairAdd : runs 0xB0000000 (queued []) (fun t => t.pairs == [genPair] && t.npairs == 1) = true := by
  decide +kernel

/-- An infinity is dropped also when the list is full; a finite pair is then code 5 (V44, V46). -/
theorem test_pairAdd_full : (runs 0xB0001000 (queued (List.replicate 16 genPair)) (fun t => t.err == 0 && t.npairs == 16) &&
    runs 0xB0000000 (queued (List.replicate 16 genPair))
      (fun t => t.err == 5 && t.errcmd == 0xB0000000 && t.npairs == 16)) = true := by decide +kernel

/-- The queued `py` is negated, the register is kept. -/
theorem test_pairAddInv : runs 0xB1000000 (queued [genPair]) (fun t =>
    t.pairs == [genPair, { genPair with py := rawNeg pub g1T.y }] && t.getPoint .g1 0 == g1T) = true := by
  decide +kernel

theorem test_pairReset : runs 0xB2000000 (queued [genPair, genPair]) (fun t => t.npairs == 0) = true := by
  decide +kernel

/-- Components 0 and 5 of `E` (V41). -/
theorem test_pairResult : runs 0xB3000000 (queued [genPair]) (fun t => t.npairs == 0 && (t.getFp6 0).a0.c0 ==
      0x004c5f4ab3065fa58028925a0b464e1913556e9eae88a66608c7efdf4f43bbbd52225c5db2ad8e9c0756fb194c815536ee9a9bc44be71aa2d152be2620cdb47c573b4041f59ceb25cad5bd2fd70ae269edac7f39d1414384527972088b198923 &&
    (t.getFp6 0).a1.c2 ==
      0x00e4b39ecbc75aab338101c00496fd25d42d0c23999244aa456d123d88fe8f8f96298e6bdd426587cc7beabede1034a5c44255272b31a9c978f647a2badc2b4a059ceb79dc4c6c38c3f2845cca25198fb259d3b82bced86a38212a63b619e849) = true := by
  decide +kernel

theorem test_pairResult_empty : runs 0xB3000000 (queued []) (fun t => t.getFp6 0 == sOne) = true := by decide +kernel

/-- `e(P, Q)·e(−P, Q) = 1`. -/
theorem test_pairCheck : runs 0xB4000000 (queued [genPair, { genPair with py := rawNeg pub g1T.y }])
    (fun t => flagB t.flag && t.npairs == 0) = true := by decide +kernel

/-- The list is kept; the reference value is not yet an element of GT (V45). -/
theorem test_pairMiller : runs 0xB5700000 (queued [genPair]) (fun t => t.npairs == 1) = true := by decide +kernel

/-- The Miller value of the reference steps for `(G1T, G2T)`. -/
def millerValue : SexticElt Fp := pub.enc6 (pub.miller (queued [genPair]).entries)

/-- `FEXP` of the Miller value is `E` (V45). -/
theorem test_fexp : runs 0xB6100000 (sextics millerValue sA) (fun t => (t.getFp6 1).a0.c0 ==
    0x004c5f4ab3065fa58028925a0b464e1913556e9eae88a66608c7efdf4f43bbbd52225c5db2ad8e9c0756fb194c815536ee9a9bc44be71aa2d152be2620cdb47c573b4041f59ceb25cad5bd2fd70ae269edac7f39d1414384527972088b198923) = true := by
  decide +kernel

theorem test_fexpEasy : (runs 0xB7100000 (sextics (e6 2 0 0 0 0 0) sA) (fun t => t.getFp6 1 == sOne) &&
    runs 0xB7100000 (sextics sZero sA) (fun t => t.getFp6 1 == sZero)) = true := by decide +kernel

theorem test_fexpHard : runs 0xB8100000 (sextics sOne sA) (fun t => t.getFp6 1 == sOne) = true := by decide +kernel

/-- The chain powers of R306 for the seed 3: `2^3` and `2^9`, a residue of Fp twisting to itself. -/
theorem test_chainPower : let c : Config := { pub with seed := 3 }
    c.chainPower ⟨⟨2, 0, 0⟩, Config.zero3⟩ 1 = ⟨⟨8, 0, 0⟩, Config.zero3⟩ ∧
    c.chainTwist ⟨⟨2, 0, 0⟩, Config.zero3⟩ 2 = ⟨⟨512, 0, 0⟩, Config.zero3⟩ := by decide +kernel

/-! ### Errors, host moves, reset (V50, V60) -/

/-- The range is tested before the length; the first error wins; a later command is executed (V50). -/
theorem test_errorPriority : (runs 0x73000000 { rs with dptr := 4000, dlen := 192 } (fun t => t.err == 4) &&
    runs 0x73000000 { rs with dptr := 4000, dlen := 50, cmdcnt := 6 }
      (fun t => t.err == 1 && t.erridx == 6 && t.cmdcnt == 7) &&
    runs 0x73000000 { rs with dptr := 4000, dlen := 50, err := 4, erridx := 2 }
      (fun t => t.err == 4 && t.erridx == 2 && t.cmdcnt == 1)) = true := by decide +kernel

/-- The edges of the buffer (V50). -/
theorem test_bufferEdges : (runs 0x14000000 { rs with dptr := 4096 } (fun t => t.err == 0) &&
    runs 0x14000000 { rs with dptr := 4097 } (fun t => t.err == 4) &&
    runs 0x15000000 { rs with dptr := 4000 } (fun t => t.err == 0) &&
    runs 0x15000000 { rs.setFp 0 1 with dptr := 4001 } (fun t => t.err == 4 && t.dmem == []) &&
    runs 0x54000000 { rs with dptr := 3521 } (fun t => t.err == 4)) = true := by decide +kernel

theorem test_illegalWord : runs 0x30800000 rs (fun t => t.err == 3 && t.errcmd == 0x30800000 && t.cmdcnt == 1) = true := by
  decide +kernel

/-- `PAIR.CHECK` as the first command after reset (V60). -/
theorem test_firstPairCheck : (match step (State.reset.withFetchWord 32 0xB4000000) with
    | .next t => t.flag == 1 && t.cmdcnt == 1
    | _ => false) = true := by decide +kernel

/-- A host write, and one past the end of the buffer. -/
theorem test_hostWrite : (match step { rs with host := [.write 4095 7] } with
    | .next t => t.dmem == [(4095, 7)] && t.host == []
    | _ => false) = true ∧ step { rs with host := [.write 4096 7] } = .fault .hostWriteOutsideDmem :=
  ⟨by decide +kernel, rfl⟩

/-! ### A legal parameter set whose prime the kernel can check

`FieldLegal` asks for a prime; that the published `p` is one is taken from the spec (R10, log entry 4). The witnesses
use the prime `2·3^473·1093 + 1`, which has 761 bits and is 7 modulo 12. -/

def legalPrime : Nat :=
  0x01b7fe808200fd259a8df9a9f4ab5772f927cf58a3027bfb0ed4cbd26da84853ac5e07641924f2bc88d968dcadeb42ee405e08ea2d807eb9944a3c52490fb8c57f2190db68647c822ceb5e13bd16e1422a6de0e6271d62d34d49d379b1365ddf

theorem zmod_pow_eq_one_iff {m : Nat} (h : 1 < m) (a e : Nat) : (a : ZMod m) ^ e = 1 ↔ powMod m a e = 1 := by
  rw [powMod_eq, ← Nat.cast_pow, ← Nat.cast_one, ZMod.natCast_eq_natCast_iff', Nat.mod_eq_of_lt h]

/-- Lucas: 6 is a primitive root. -/
theorem legalPrime_prime : legalPrime.Prime := by
  have h1 : 1 < legalPrime := by decide +kernel
  refine lucas_primality _ ((6 : Nat) : ZMod legalPrime) ((zmod_pow_eq_one_iff h1 _ _).mpr (by decide +kernel))
    fun q hq hd => ?_
  rw [show legalPrime - 1 = 2 * 3 ^ 473 * 1093 by decide +kernel, hq.dvd_mul, hq.dvd_mul] at hd
  rw [ne_eq, zmod_pow_eq_one_iff h1]
  rcases hd with (h | h) | h
  · rw [(Nat.prime_dvd_prime_iff_eq hq Nat.prime_two).mp h]; decide +kernel
  · rw [(Nat.prime_dvd_prime_iff_eq hq Nat.prime_three).mp (hq.dvd_of_dvd_pow h)]; decide +kernel
  · rw [(Nat.prime_dvd_prime_iff_eq hq (by norm_num)).mp h]; decide +kernel

/-- A non-zero residue whose power by `(p−1)/n` is not one has no `n`-th root. -/
theorem no_root {n a : Nat} (hn : n ≠ 0) (hd : n * ((legalPrime - 1) / n) = legalPrime - 1) (h0 : 0 < a)
    (ha : a < legalPrime) (hp : powMod legalPrime a ((legalPrime - 1) / n) ≠ 1) (x : Nat) : x ^ n % legalPrime ≠ a := by
  intro h
  have : Fact legalPrime.Prime := ⟨legalPrime_prime⟩
  have hx : (x : ZMod legalPrime) ^ n = (a : ZMod legalPrime) := by
    rw [← h, ← Nat.cast_pow]; exact (ZMod.natCast_mod _ _).symm
  refine hp ((zmod_pow_eq_one_iff (by decide +kernel) _ _).mp ?_)
  rw [← hx, ← pow_mul, hd]
  refine ZMod.pow_card_sub_one_eq_one fun hz => ?_
  rw [hz, zero_pow hn, eq_comm, ZMod.natCast_eq_zero_iff] at hx
  exact Nat.not_dvd_of_pos_of_lt h0 ha hx

/-- Both curves `y² = x³ + 3`, on which `(1, 2)` lies; 37 divides `p² − p + 1`. -/
def legal : Config :=
  { Config.published with
    pMod := legalPrime, rOrd := 37, bG1 := 3, bG2 := 3, genG1 := ⟨1, 2⟩, genG2 := ⟨1, 2⟩, twist := .dType }

theorem legal_fieldLegal : legal.FieldLegal where
  prime := legalPrime_prime
  low := by decide +kernel
  high := by decide +kernel
  mod12 := by decide +kernel
  nonCube := no_root (by decide) (by decide +kernel) (by decide +kernel) (by decide +kernel) (by decide +kernel)

theorem legal_orderLegal : legal.OrderLegal where
  prime := by show Nat.Prime 37; norm_num
  divides := Nat.dvd_of_mod_eq_zero (by decide +kernel)
  multPos := by decide
  multCoprime := by decide

/-- Every constraint on the parameters can be met together (R9 to R11). -/
theorem legal_legal : legal.Legal where
  field := legal_fieldLegal
  order := legal_orderLegal
  loops := by decide
  triples := by decide +kernel
  windows := by decide
  buffer := by decide
  list := by decide

theorem published_sized : Config.published.Sized := by constructor <;> decide +kernel

theorem legal_sized : legal.Sized := by constructor <;> decide +kernel

/-- The point `(1, 2)` in Montgomery form. -/
def gen : Point Fp := ⟨legal.enc 1, legal.enc 2, legal.one⟩

/-- Registers 0 of both groups hold `gen`, `FP[1]` a residue in Montgomery form, `FP3[0]` and `FP6[0]` one. -/
def ls (n : Nat) : State :=
  { (((rs.setFp 1 (legal.enc n)).setFp3 0 ⟨legal.one, 0, 0⟩).setFp6 0 ⟨⟨legal.one, 0, 0⟩, ⟨0, 0, 0⟩⟩) with
    cfg := legal, g1 := Vector.replicate 8 gen, g2 := Vector.replicate 8 gen, dlen := 192 }

theorem ls_legal (n : Nat) : (ls n).cfg.FieldLegal := legal_fieldLegal

/-- Every value out of every domain. -/
def bad : State :=
  let m : Fp := BitVec.allOnes 768
  { rs with
    fp := Vector.replicate 16 m, fp3 := Vector.replicate 8 ⟨m, m, m⟩, fp6 := Vector.replicate 8 ⟨⟨m, m, m⟩, ⟨m, m, m⟩⟩
    g1 := Vector.replicate 8 ⟨m, m, m⟩, g2 := Vector.replicate 8 ⟨m, m, m⟩, sc := Vector.replicate 8 m }

/-- `DPTR`, `DLEN`. -/
def at' (dptr dlen : BitVec 24) : State := { rs with dptr := dptr, dlen := dlen }

/-- From a run of a presented word to the next state. -/
theorem runs_next {w : Word} {s : State} {q : State → Bool} (h : runs w s q = true) :
    ∃ t, execWord w s = .next t ∧ q t = true := by
  unfold runs at h
  split at h
  · exact ⟨_, ‹_›, h⟩
  · exact absurd h Bool.false_ne_true

/-- Two commands in a row. -/
theorem runs_two {w w' : Word} {i j : Instr} {s : State} (hi : decode w = .ok i) (hj : decode w' = .ok j)
    (h : runs w s (fun t => runs w' t (fun _ => true)) = true) : ∃ t u, exec i s = .next t ∧ exec j t = .next u := by
  obtain ⟨t, ht, h2⟩ := runs_next h
  obtain ⟨u, hu, -⟩ := runs_next h2
  exact ⟨t, u, by rw [← execWord_of hi, ht], by rw [← execWord_of hj, hu]⟩

/-! ### Witnesses: a state and operands that meet the hypotheses of each statement -/

theorem witness_DecodeOfEncode : (Instr.g1Msm 7 0 0 8).WellFormed ∧ (Instr.fp6Get 0 0 1).WellFormed := by decide

theorem witness_EncodeOfDecode : decode 0xA2000008 = .ok (.g2Msm 0 0 0 8) := rfl

theorem witness_IllegalWords :
    decode 0x30800000 = .error .fixedBits ∧
    (0x08 ≤ (opcodeOf 0x08000000).toNat ∧ (opcodeOf 0x0F000000).toNat ≤ 0x0F) ∧
    (0xB9 ≤ (opcodeOf 0xB9000000).toNat ∧ (opcodeOf 0xFF000000).toNat ≤ 0xFF) ∧
    (∃ row ∈ opcodeMap, row.opcode = opcodeOf 0x00000001 ∧ 0x00000001 &&& row.mask ≠ row.pattern) ∧
    ¬(Instr.g1Msm 0 1 1 9).WellFormed :=
  ⟨rfl, by decide, by decide, ⟨_, List.mem_append_left _ (List.mem_of_getElem? (i := 0) rfl), rfl, by decide⟩, by decide⟩

theorem witness_StepRunsPresentedCommand :
    ({ rs with host := [.command 0x00000000] }).host = .command 0x00000000 :: [] ∧ decode 0x00000000 = .ok .nop ∧
    decode 0x00000001 = .error .fixedBits := ⟨rfl, rfl, rfl⟩

theorem witness_HostMoves : rs.host = [] ∧ ({ rs with host := [.write 4095 7] }).host = .write 4095 7 :: [] ∧
    4095 < rs.cfg.dmemSize ∧ rs.cfg.dmemSize ≤ 4096 ∧ ({ rs with host := [.reset] }).host = .reset :: [] := by
  decide

theorem reset_inv : rs.Inv where
  sized := published_sized
  canonical := by decide
  inside := by decide
  fits := by decide
  entriesValid := by decide
  legalCode := by decide
  clearTogether := by decide
  cmpLegal := by decide

theorem witness_StepKeepsInvariant : rs.Inv ∧ step { rs with host := [.command 0] } = .next rs.counted ∧
    State.Inv { rs with host := [.command 0] } := ⟨reset_inv, rfl, { reset_inv with }⟩

/-- A full list of valid entries. -/
theorem witness_NpairsIsListLength : State.Inv { rs with pairs := List.replicate 16 ⟨0, 0, 0, 0⟩ } :=
  { reset_inv with
    fits := by decide
    entriesValid := fun k hk => by rw [List.eq_of_mem_replicate hk]; decide +kernel }

theorem witness_ConstantsNeverChange : step { rs with host := [.reset] } = .next (resetCore rs) := rfl

theorem witness_ErrorEntry_ranges :
    Errs (.g1Msm 0 1 1 9) rs .illegalCommand ∧ Errs (.fpLd 0) (at' 4097 0) .dmemRange ∧
    Errs (.fpSt 0) (at' 4001 0) .dmemRange ∧ Errs (.scLd 0) (at' 3999 97) .formatError :=
  ⟨.illegal (by decide), .loadRange (by decide) (by decide), .storeRange (by decide) (by decide),
    .format _ rfl (by decide) (by decide)⟩

theorem witness_ErrorEntry_content :
    Errs (.g1Ld 0) { at' 3904 192 with dmem := [(4000, 1)] } .notOnCurveError ∧
    Errs (.pairAdd 0 0) (queued (List.replicate 16 genPair)) .pairListFull :=
  ⟨.content .g1 rfl (by decide) (by decide) ⟨⟨1, by decide +kernel, by decide⟩, by decide +kernel⟩,
    .full 0 0 rfl (by decide +kernel) (by decide +kernel) (by decide +kernel)⟩

theorem witness_NoOtherError : (∀ err, ¬Errs .nop rs err) ∧ (∀ err, ¬Errs .clrErr rs err) ∧
    exec .nop rs = .next rs.counted ∧ exec .clrErr rs = .next rs.counted := by
  refine ⟨fun err h => ?_, fun err h => ?_, rfl, rfl⟩ <;>
    cases h <;> simp_all [Instr.loadLength, Instr.storeWidth, decodedGroup, queuedRegisters, Instr.defect]

/-- For the statements about every command and every next state: a command that keeps everything, and one that
writes. -/
theorem witness_frames : exec .nop rs = .next rs.counted ∧ (∀ a, Instr.nop ≠ .setPtr a) ∧ (∀ n, Instr.nop ≠ .setLen n) ∧
    Instr.nop.writesPairs = false ∧ Instr.nop.writesB = false ∧ Instr.nop.writesCmp = false ∧
    flagCmp rs.flag ≠ 0b10 ∧ Instr.nop.storeWidth = 0 ∧ (∀ r, Instr.nop.destination ≠ some r) :=
  ⟨rfl, nofun, nofun, rfl, rfl, rfl, by decide, rfl, nofun⟩

theorem witness_ErrorsMaskNothing : exec (.scMov 1 0) rs = .next (rs.setSc 1 (rs.getSc 0)).counted := rfl

theorem witness_PointerFrame : exec (.setPtr 5) rs = .next { rs.counted with dptr := 5 } ∧ (∀ n, Instr.setPtr 5 ≠ .setLen n) :=
  ⟨rfl, nofun⟩

theorem witness_PairListFrame : exec .pairReset rs = .next rs.counted := rfl

theorem witness_FlagFrame : exec (.fpIsZero 0) rs = .next (rs.setB (rs.getFp 0 == 0)).counted ∧
    (Instr.fpIsZero 0).writesCmp = false ∧ flagCmp rs.flag ≠ 0b10 := ⟨rfl, rfl, by decide⟩

/-- The bytes beside a store of 96 bytes at 10. -/
theorem witness_BufferFrame : (∃ t, exec (.scSt 0) (at' 10 0) = .next t) ∧ 9 < (at' 10 0).dptr.toNat ∧
    (at' 10 0).dptr.toNat + (Instr.scSt 0).storeWidth ≤ 106 := by
  obtain ⟨t, u, h, -⟩ := runs_two (w := 0x06000000) (w' := 0) (i := .scSt 0) (j := .nop) (s := at' 10 0) rfl rfl
    (by decide +kernel)
  exact ⟨⟨t, h⟩, by decide, by decide⟩

theorem witness_RegisterFrame : exec (.scMov 1 0) rs = .next (rs.setSc 1 (rs.getSc 0)).counted ∧
    (Instr.scMov 1 0).destination ≠ some (.sc 0) := ⟨rfl, by decide⟩

/-- The first and the last opcode of the family, and the ones beside them. -/
theorem witness_BaseFieldIndependence : (Instr.fpZero 0).isBaseField = true ∧ (Instr.fpIsValid 0).isBaseField = true ∧
    (Instr.scMov 0 0).isBaseField = false ∧ (Instr.fp3Zero 0).isBaseField = false := by decide

theorem witness_BufferAccess : (0 : Nat) < 1 := by decide

/-- The clauses of a load and of a store at their boundaries: the last byte in range, the longest length, one more. -/
theorem witness_ScalarLoadStore :
    ((at' 4000 96).dptr.toNat + (at' 4000 96).dlen.toNat ≤ rs.cfg.dmemSize ∧ (at' 4000 96).dlen.toNat ≤ 96) ∧
    ((at' 3999 97).dptr.toNat + (at' 3999 97).dlen.toNat ≤ rs.cfg.dmemSize ∧ 96 < (at' 3999 97).dlen.toNat) ∧
    rs.cfg.dmemSize < (at' 4000 97).dptr.toNat + (at' 4000 97).dlen.toNat ∧
    (at' 4000 0).dptr.toNat + 96 ≤ rs.cfg.dmemSize ∧ rs.cfg.dmemSize < (at' 4001 0).dptr.toNat + 96 := by decide

theorem witness_FpLoadStore :
    ((at' 4000 96).dptr.toNat + (at' 4000 96).dlen.toNat ≤ rs.cfg.dmemSize ∧ (at' 4000 96).dlen.toNat ≤ 96) ∧
    ((at' 3999 97).dptr.toNat + (at' 3999 97).dlen.toNat ≤ rs.cfg.dmemSize ∧ 96 < (at' 3999 97).dlen.toNat) ∧
    rs.cfg.dmemSize < (at' 4097 0).dptr.toNat + (at' 4097 0).dlen.toNat ∧
    (at' 4000 0).dptr.toNat + 96 ≤ rs.cfg.dmemSize ∧ rs.cfg.dmemSize < (at' 4001 0).dptr.toNat + 96 := by decide

theorem witness_ExtensionLoadStore :
    ((at' 3808 288).dptr.toNat + (at' 3808 288).dlen.toNat ≤ rs.cfg.dmemSize ∧ (at' 3808 288).dlen.toNat = 288) ∧
    ((at' 3520 576).dptr.toNat + (at' 3520 576).dlen.toNat ≤ rs.cfg.dmemSize ∧ (at' 3520 576).dlen.toNat = 576) ∧
    (at' 0 287).dlen.toNat ≠ 288 ∧ (at' 0 575).dlen.toNat ≠ 576 ∧
    rs.cfg.dmemSize < (at' 3809 288).dptr.toNat + (at' 3809 288).dlen.toNat ∧
    (at' 3808 0).dptr.toNat + 288 ≤ rs.cfg.dmemSize ∧ rs.cfg.dmemSize < (at' 3809 0).dptr.toNat + 288 ∧
    (at' 3520 0).dptr.toNat + 576 ≤ rs.cfg.dmemSize ∧ rs.cfg.dmemSize < (at' 3521 0).dptr.toNat + 576 := by decide

/-- Both cases of a sum and of a difference, and the operand zero. -/
theorem witness_FpAdditive : (fps (p - 1) 1).cfg.Sized ∧
    (((fps (p - 1) 1).getFp 1).toNat < pub.pMod ∧ ((fps (p - 1) 1).getFp 2).toNat < pub.pMod ∧
      ¬((fps (p - 1) 1).getFp 1).toNat + ((fps (p - 1) 1).getFp 2).toNat < pub.pMod ∧
      ((fps (p - 1) 1).getFp 2).toNat ≤ ((fps (p - 1) 1).getFp 1).toNat) ∧
    (((fps 0 (p - 1)).getFp 1).toNat < pub.pMod ∧ ((fps 0 (p - 1)).getFp 2).toNat < pub.pMod ∧
      ((fps 0 (p - 1)).getFp 1).toNat + ((fps 0 (p - 1)).getFp 2).toNat < pub.pMod ∧
      ¬((fps 0 (p - 1)).getFp 2).toNat ≤ ((fps 0 (p - 1)).getFp 1).toNat) :=
  ⟨published_sized, by decide +kernel, by decide +kernel⟩

/-- The largest lazy-ok operands. -/
theorem witness_FpMontgomery : (fps (p + p - 1) (p + p - 1)).cfg.Sized ∧
    ((fps (p + p - 1) (p + p - 1)).getFp 1).toNat < 2 * pub.pMod ∧
    ((fps (p + p - 1) (p + p - 1)).getFp 2).toNat < 2 * pub.pMod :=
  ⟨published_sized, by decide +kernel, by decide +kernel⟩

theorem witness_WordSerialMontgomery : pub.Sized ∧ 2 * pub.pMod - 1 < 2 * pub.pMod := ⟨published_sized, by decide +kernel⟩

theorem witness_FpInverse : (ls 0).cfg.FieldLegal ∧ ((ls 0).getFp 1).toNat < legal.pMod ∧ (ls 0).getFp 1 = 0 ∧
    ((ls 2).getFp 1).toNat < legal.pMod ∧ (ls 2).getFp 1 ≠ 0 :=
  ⟨ls_legal _, by decide +kernel, by decide +kernel, by decide +kernel, by decide +kernel⟩

theorem witness_FpPower : (fps (p - 1) 0).cfg.Sized ∧ ((fps (p - 1) 0).getFp 1).toNat < pub.pMod :=
  ⟨published_sized, by decide +kernel⟩

/-- 0 and 4 have a square root, −1 has none. -/
theorem witness_FpSquareRoot :
    ((ls 4).cfg.FieldLegal ∧ ((ls 4).getFp 1).toNat < legal.pMod ∧ 2 * 2 % legal.pMod = legal.dec ((ls 4).getFp 1)) ∧
    (((ls 0).getFp 1).toNat < legal.pMod ∧ 0 * 0 % legal.pMod = legal.dec ((ls 0).getFp 1)) ∧
    (((ls (legalPrime - 1)).getFp 1).toNat < legal.pMod ∧
      ∀ r, r * r % legal.pMod ≠ legal.dec ((ls (legalPrime - 1)).getFp 1)) := by
  refine ⟨⟨ls_legal _, by decide +kernel, by decide +kernel⟩, ⟨by decide +kernel, by decide +kernel⟩,
    by decide +kernel, fun r => ?_⟩
  rw [show legal.dec ((ls (legalPrime - 1)).getFp 1) = legalPrime - 1 by decide +kernel, ← sq]
  exact no_root (by decide) (by decide +kernel) (by decide +kernel) (by decide +kernel) (by decide +kernel) r

theorem witness_FpLazy : (fps (p - 1) (p - 1)).cfg.Sized ∧ ((fps (p - 1) (p - 1)).getFp 1).toNat < pub.pMod ∧
    ((fps (p - 1) (p - 1)).getFp 2).toNat < pub.pMod := ⟨published_sized, by decide +kernel, by decide +kernel⟩

theorem fpMul_next (s : State) : ∃ t, exec (.fpMul 3 3 2) s = .next t := by
  obtain ⟨_, _, h⟩ := fpBinary_next s lazyOk (fun c x y => BitVec.ofNat 768 (c.mont x.toNat y.toNat)) 3 3 2
  exact ⟨_, h⟩

theorem fp3Mul_next (s : State) : ∃ t, exec (.fp3Mul 3 3 2) s = .next t := by
  obtain ⟨_, _, h⟩ := fp3Binary_next s lazyOk (fun c a b => c.enc3 (c.mul3 (c.dec3 a) (c.dec3 b))) 3 3 2
  exact ⟨_, h⟩

theorem fp6Mul_next (s : State) : ∃ t, exec (.fp6Mul 3 3 2) s = .next t := by
  obtain ⟨_, _, h⟩ := fp6Binary_next s lazyOk (fun c a b => c.enc6 (c.mul6 (c.dec6 a) (c.dec6 b))) 3 3 2
  exact ⟨_, h⟩

theorem lazy_runs (s : State) : ∃ t u t' u', exec (.fpLAdd 3 1 1) s = .next t ∧ exec (.fpAdd 3 1 1) s = .next u ∧
    exec (.fpMul 3 3 2) t = .next t' ∧ exec (.fpMul 3 3 2) u = .next u' := by
  obtain ⟨v, ht⟩ := fpLazy_next s (valid s.cfg (s.getFp 1) && valid s.cfg (s.getFp 1)) _ _ 3
  obtain ⟨_, _, hu⟩ := fpBinary_next s valid rawAdd 3 1 1
  obtain ⟨t', ht'⟩ := fpMul_next ((s.setFp 3 v).spend 1).counted
  obtain ⟨u', hu'⟩ := fpMul_next _
  exact ⟨_, _, t', u', ht, hu, ht', hu'⟩

theorem witness_LazyEquivalence_fp : (fps (p - 1) (p - 1)).cfg.Sized ∧ (2 : FpIdx) ≠ 3 ∧
    valid pub ((fps (p - 1) (p - 1)).getFp 1) = true ∧ lazyOk pub ((fps (p - 1) (p - 1)).getFp 2) = true :=
  ⟨published_sized, by decide, by decide +kernel, by decide +kernel⟩

theorem lazy_runs_fp3 (s : State) (h : ((s.getFp3 1).all (valid s.cfg) && (s.getFp3 1).all (valid s.cfg)) = true) :
    ∃ t u t' u', exec (.fp3LAdd 3 1 1) s = .next t ∧ exec (.fp3Add 3 1 1) s = .next u ∧
      exec (.fp3Mul 3 3 2) t = .next t' ∧ exec (.fp3Mul 3 3 2) u = .next u' := by
  have ht : ∃ t, exec (.fp3LAdd 3 1 1) s = .next t := ⟨_, if_pos h⟩
  obtain ⟨t, ht⟩ := ht
  obtain ⟨_, _, hu⟩ := fp3Binary_next s valid (fun c a b => a.zipWith (rawAdd c) b) 3 1 1
  obtain ⟨t', ht'⟩ := fp3Mul_next t
  obtain ⟨u', hu'⟩ := fp3Mul_next _
  exact ⟨t, _, t', u', ht, hu, ht', hu'⟩

theorem lazy_runs_fp6 (s : State) (h : ((s.getFp6 1).all (valid s.cfg) && (s.getFp6 1).all (valid s.cfg)) = true) :
    ∃ t u t' u', exec (.fp6LAdd 3 1 1) s = .next t ∧ exec (.fp6Add 3 1 1) s = .next u ∧
      exec (.fp6Mul 3 3 2) t = .next t' ∧ exec (.fp6Mul 3 3 2) u = .next u' := by
  have ht : ∃ t, exec (.fp6LAdd 3 1 1) s = .next t := ⟨_, if_pos h⟩
  obtain ⟨t, ht⟩ := ht
  obtain ⟨_, _, hu⟩ := fp6Binary_next s valid (fun c a b => a.zipWith (rawAdd c) b) 3 1 1
  obtain ⟨t', ht'⟩ := fp6Mul_next t
  obtain ⟨u', hu'⟩ := fp6Mul_next _
  exact ⟨t, _, t', u', ht, hu, ht', hu'⟩

theorem witness_LazyEquivalence_extensions : rs.cfg.Sized ∧ (2 : Idx) ≠ 3 ∧
    ((rs.getFp3 1).all (valid rs.cfg) && (rs.getFp3 1).all (valid rs.cfg)) = true ∧
    (rs.getFp3 2).all (lazyOk rs.cfg) = true ∧
    ((rs.getFp6 1).all (valid rs.cfg) && (rs.getFp6 1).all (valid rs.cfg)) = true ∧
    (rs.getFp6 2).all (lazyOk rs.cfg) = true :=
  ⟨published_sized, by decide, by decide +kernel, by decide +kernel, by decide +kernel, by decide +kernel⟩

/-- The selectors beside the legal ones. -/
theorem witness_ExtensionMoves : 2 < (3 : BitVec 8).toNat ∧ 1 < (2 : BitVec 8).toNat := by decide

theorem witness_ExtensionAdditive : (cubics cA cB).cfg.Sized ∧ ((cubics cA cB).getFp3 0).all (valid pub) = true ∧
    ((cubics cA cB).getFp3 1).all (valid pub) = true ∧ ((sextics sA sB).getFp6 0).all (valid pub) = true ∧
    ((sextics sA sB).getFp6 1).all (valid pub) = true :=
  ⟨published_sized, by decide +kernel, by decide +kernel, by decide +kernel, by decide +kernel⟩

theorem witness_ExtensionLazy : (cubics cA cB).cfg.Sized ∧ ((cubics cA cB).getFp3 0).all (valid pub) = true ∧
    ((sextics sA sB).getFp6 1).all (valid pub) = true := ⟨published_sized, by decide +kernel, by decide +kernel⟩

/-- The largest lazy-ok components; of the second operand of `FP3.MUL0` only `c0` has to be in domain. -/
theorem witness_Fp3Products :
    let s := cubics ⟨p + p - 1, p + p - 1, p + p - 1⟩ ⟨p + p - 1, BitVec.allOnes 768, BitVec.allOnes 768⟩
    s.cfg.Sized ∧ (s.getFp3 0).all (lazyOk pub) = true ∧ lazyOk pub (s.getFp3 1).c0 = true :=
  ⟨published_sized, by decide +kernel, by decide +kernel⟩

theorem witness_Fp6Products : sparseState.cfg.Sized ∧ (sparseState.getFp6 0).all (lazyOk pub) = true ∧
    (sparseState.getFp6 1).all (lazyOk pub) = true ∧ lazyOk pub (sparseState.getFp 4) = true ∧
    lazyOk pub (sparseState.getFp 5) = true ∧ lazyOk pub (sparseState.getFp 6) = true :=
  ⟨published_sized, by decide +kernel, by decide +kernel, by decide +kernel, by decide +kernel, by decide +kernel⟩

/-- A zero and a non-zero operand. -/
theorem witness_ExtensionInverse : (ls 0).cfg.FieldLegal ∧
    ((ls 0).getFp3 0).all (valid legal) = true ∧ (ls 0).getFp3 0 ≠ ⟨0, 0, 0⟩ ∧
    ((ls 0).getFp3 1).all (valid legal) = true ∧ (ls 0).getFp3 1 = ⟨0, 0, 0⟩ ∧
    ((ls 0).getFp6 0).all (valid legal) = true ∧ (ls 0).getFp6 0 ≠ ⟨⟨0, 0, 0⟩, ⟨0, 0, 0⟩⟩ ∧
    ((ls 0).getFp6 1).all (valid legal) = true ∧ (ls 0).getFp6 1 = ⟨⟨0, 0, 0⟩, ⟨0, 0, 0⟩⟩ :=
  ⟨ls_legal _, by decide +kernel⟩

/-- One is its own power. -/
theorem power6_one {c : Config} (h : c.mul6 c.one6 c.one6 = c.one6) (n : Nat) : c.power6 c.one6 n = c.one6 := by
  induction n with
  | zero => rfl
  | succ n ih => rw [Config.power6, ih, h]

theorem witness_ExtensionPower : rs.cfg.Sized ∧ (rs.getFp3 0).all (valid pub) = true ∧
    ((sextics sOne sA).getFp6 0).all (valid pub) = true ∧
    pub.power6 (pub.dec6 ((sextics sOne sA).getFp6 0)) (pub.pMod ^ 2 - pub.pMod + 1) = pub.one6 :=
  ⟨published_sized, by decide +kernel, by decide +kernel,
    (congrArg (pub.power6 · _) (by decide +kernel)).trans (power6_one (by decide +kernel) _)⟩

theorem witness_FrobeniusIsPower : (ls 0).cfg.FieldLegal ∧ ((ls 0).getFp3 0).all (valid legal) = true ∧
    ((ls 0).getFp6 0).all (valid legal) = true := ⟨ls_legal _, by decide +kernel, by decide +kernel⟩

theorem witness_ConjugateIsFrobeniusThree : (ls 0).cfg.FieldLegal ∧ ((ls 0).getFp6 0).all (valid legal) = true :=
  ⟨ls_legal _, by decide +kernel⟩

theorem witness_ExtensionPredicates : (sextics sA sB).cfg.Sized ∧ ((sextics sA sB).getFp6 0).all (valid pub) = true :=
  ⟨published_sized, by decide +kernel⟩

theorem witness_PointMoves : 2 < (3 : BitVec 8).toNat := by decide

/-- All zero; on the curve; a coordinate out of range; a wrong length; out of range. -/
theorem witness_PointLoads : (at' 3904 192).cfg.Sized ∧
    ((at' 3904 192).dptr.toNat + (at' 3904 192).dlen.toNat ≤ pub.dmemSize ∧ (at' 3904 192).dlen.toNat = 192) ∧
    (∀ byte ∈ (at' 3904 192).loaded, byte = 0) ∧
    pub.pMod ≤ be ((loadedWith (255 :: List.replicate 191 0)).loaded.take 96) ∧
    (at' 0 191).dlen.toNat ≠ 192 ∧ pub.dmemSize < (at' 3905 192).dptr.toNat + (at' 3905 192).dlen.toNat :=
  ⟨published_sized, by decide +kernel, by decide +kernel, by decide +kernel, by decide, by decide +kernel⟩

/-- The string of `T2`. -/
def t2Bytes : List Byte := (loadedWith (fpBytes (e 1) ++ List.replicate 96 0)).loaded

theorem witness_PointLoads_onCurve : (∃ byte ∈ t2Bytes, byte ≠ 0) ∧ be (t2Bytes.take 96) < pub.pMod ∧
    be (t2Bytes.drop 96) < pub.pMod ∧ pub.mont (be (t2Bytes.drop 96)) (be (t2Bytes.drop 96)) =
      (pub.mont (pub.mont (be (t2Bytes.take 96)) (be (t2Bytes.take 96))) (be (t2Bytes.take 96)) +
        curveB pub .g1 * 2 ^ 768 % pub.pMod) % pub.pMod := by decide +kernel

/-- A finite point and an infinity, at the last address where 192 bytes fit, and one more. -/
theorem witness_PointStores : (ls 0).cfg.FieldLegal ∧ (ls 0).pointOk .g1 0 = true ∧ (ls 0).pointOk .g2 0 = true ∧
    ((ls 0).getPoint .g1 0).z ≠ 0 ∧
    (({ ls 0 with dptr := 3904 }).setPoint .g1 0 ⟨0, 0, 0⟩).pointOk .g1 0 = true ∧
    ({ ls 0 with dptr := 3904 }).dptr.toNat + 192 ≤ legal.dmemSize ∧
    legal.dmemSize < ({ ls 0 with dptr := 3905 }).dptr.toNat + 192 :=
  ⟨ls_legal _, by decide +kernel, by decide +kernel, by decide +kernel, by decide +kernel, by decide +kernel,
    by decide +kernel⟩

theorem witness_PointGroupLaw : (ls 0).cfg.FieldLegal ∧ (ls 0).pointOk .g1 0 = true ∧ (ls 0).pointOk .g2 1 = true :=
  ⟨ls_legal _, by decide +kernel, by decide +kernel⟩

theorem witness_PointExact : rs.cfg.Sized ∧ (rs.getPoint .g1 0).all (valid pub) = true ∧ (ls 0).cfg.FieldLegal ∧
    (ls 0).pointOk .g1 0 = true ∧ ((ls 0).getPoint .g1 0).z ≠ 0 ∧ ((ls 0).setPoint .g2 0 ⟨0, 0, 0⟩).pointOk .g2 0 = true :=
  ⟨published_sized, by decide +kernel, ls_legal _, by decide +kernel, by decide +kernel, by decide +kernel⟩

theorem witness_PointPredicates : rs.cfg.Sized ∧ (rs.getPoint .g1 0).all (valid pub) = true ∧ (ls 0).cfg.FieldLegal ∧
    (ls 0).pointOk .g1 0 = true ∧ (ls 0).pointOk .g1 1 = true :=
  ⟨published_sized, by decide +kernel, ls_legal _, by decide +kernel, by decide +kernel⟩

/-- The last register, and a scalar of as many bits as `r`. -/
theorem witness_ScalarMultiples :
    ((ls 0).setSc 7 63).cfg.FieldLegal ∧ ((ls 0).setSc 7 63).pointOk .g2 0 = true ∧
    (7 : Idx).val + (1 : BitVec 8).toNat ≤ 8 ∧
    ∀ k < (1 : BitVec 8).toNat, ((ls 0).setSc 7 63).pointOk .g1 (nthAfter 7 k) = true ∧
      bitLen (((ls 0).setSc 7 63).getSc (nthAfter 7 k)).toNat ≤ bitLen legal.rOrd :=
  ⟨legal_fieldLegal, by decide +kernel, by decide, by decide +kernel⟩

/-- An infinity; a finite pair and a full list; a finite pair and room. -/
theorem witness_PairQueue : (rs.getPoint .g1 0).z = 0 ∧
    ((queued (List.replicate 16 genPair)).getPoint .g1 0).z ≠ 0 ∧
    ((queued (List.replicate 16 genPair)).getPoint .g2 0).z ≠ 0 ∧
    (queued (List.replicate 16 genPair)).pairs.length = pub.maxPairs ∧
    (ls 0).cfg.FieldLegal ∧ ((ls 0).getPoint .g1 0).z ≠ 0 ∧ ((ls 0).getPoint .g2 0).z ≠ 0 ∧
    (ls 0).pairs.length ≠ legal.maxPairs ∧ (ls 0).pointOk .g1 0 = true ∧ (ls 0).pointOk .g2 0 = true :=
  ⟨by decide +kernel, by decide +kernel, by decide +kernel, by decide +kernel, ls_legal _, by decide +kernel,
    by decide +kernel, by decide +kernel, by decide +kernel, by decide +kernel⟩

theorem witness_PairValue_commands : (queued [genPair]).cfg.Sized ∧
    (queued [genPair]).entries.all (queued [genPair]).cfg.pairInDomain = true ∧
    (queued [genPair]).cfg.miller (queued [genPair]).entries ≠ Config.zero6 ∧ (queued []).pairs = [] :=
  ⟨published_sized, by decide +kernel, by decide +kernel, rfl⟩

/-- A point and infinity on the curve of G2, a chord, the branch `λ = 0`, and the smallest number with bits. -/
theorem witness_PairValue_loop : legal.FieldLegal ∧ 2 < legal.pMod ∧
    2 ^ 2 * 1 % legal.pMod = (1 ^ 3 + legal.bG2 * 1 ^ 3) % legal.pMod ∧
    1 ^ 2 * 0 % legal.pMod = (0 ^ 3 + legal.bG2 * 0 ^ 3) % legal.pMod ∧
    0 ≠ 1 * 1 % legal.pMod ∧ 1 = 1 * 1 % legal.pMod ∧ legal.Sized ∧ 1 ≤ 1 :=
  ⟨legal_fieldLegal, by decide +kernel, by decide +kernel, by decide +kernel, by decide +kernel, by decide +kernel,
    legal_sized, le_refl 1⟩

theorem witness_FinalExponentiation : (ls 0).cfg.FieldLegal ∧ ((ls 0).getFp6 0).all (valid legal) = true ∧
    legal.dec6 ((ls 0).getFp6 0) ≠ Config.zero6 ∧
    legal.power6 (legal.dec6 ((ls 0).getFp6 0)) (legal.pMod ^ 2 - legal.pMod + 1) = legal.one6 ∧
    legal.rOrd ∣ legal.pMod ^ 2 - legal.pMod + 1 ∧ legal.OrderLegal :=
  ⟨ls_legal _, by decide +kernel, by decide +kernel,
    (congrArg (legal.power6 · _) (by decide +kernel)).trans (power6_one (by decide +kernel) _),
    legal_orderLegal.divides, legal_orderLegal⟩

theorem witness_NonAdjacentForm : 1 ≤ 1 := by decide

theorem witness_RoundTrip_fields :
    (∃ t u, exec (.scSt 1) (at' 4000 96) = .next t ∧ exec (.scLd 2) t = .next u) ∧
    (∃ t u, exec (.fpSt 1) (at' 4000 96) = .next t ∧ exec (.fpLd 2) t = .next u) ∧
    (∃ t u, exec (.fp3St 1) (at' 3808 288) = .next t ∧ exec (.fp3Ld 2) t = .next u) ∧
    (∃ t u, exec (.fp6St 1) (at' 3520 576) = .next t ∧ exec (.fp6Ld 2) t = .next u) :=
  ⟨runs_two (w := 0x06010000) (w' := 0x05200000) rfl rfl (by decide +kernel),
    runs_two (w := 0x15010000) (w' := 0x14200000) rfl rfl (by decide +kernel),
    runs_two (w := 0x34010000) (w' := 0x33200000) rfl rfl (by decide +kernel),
    runs_two (w := 0x54010000) (w' := 0x53200000) rfl rfl (by decide +kernel)⟩

theorem witness_RoundTrip_points : (ls 0).cfg.FieldLegal ∧ curveB legal .g1 % legal.pMod ≠ 0 ∧
    (ls 0).pointOk .g1 1 = true ∧ (ls 0).dptr.toNat + 192 ≤ legal.dmemSize ∧ (ls 0).dlen = 192 ∧
    ∃ t u, exec (.g1St 1) (ls 0) = .next t ∧ exec (.g1Ld 2) t = .next u :=
  ⟨ls_legal _, by decide +kernel, by decide +kernel, by decide +kernel, rfl,
    runs_two (w := 0x74010000) (w' := 0x73200000) rfl rfl (by decide +kernel)⟩

/-- Valid but outside the cyclotomic subgroup, and zero for `FEXP`, beside the values that are no residues. -/
theorem witness_FieldOutOfDomain : valid pub (bad.getFp 1) = false ∧ lazyOk pub (bad.getFp 1) = false ∧
    (bad.getFp3 0).all (valid pub) = false ∧ (bad.getFp3 0).all (lazyOk pub) = false ∧
    ((bad.getFp3 0).all (lazyOk pub) && lazyOk pub (bad.getFp3 1).c0) = false ∧
    (bad.getFp6 0).all (valid pub) = false ∧ (bad.getFp6 0).all (lazyOk pub) = false ∧
    (((sextics sA sB).getFp6 0).all (valid pub) && pub.isCyclotomic (pub.dec6 ((sextics sA sB).getFp6 0))) = false ∧
    ((rs.getFp6 0).all (valid pub) && pub.dec6 (rs.getFp6 0) != Config.zero6) = false := by decide +kernel

/-- Off the curve with room for a store; a long scalar; a pair off the curve and room; an entry outside the subgroup. -/
theorem witness_PointOutOfDomain : bad.pointOk .g1 0 = false ∧ bad.dptr.toNat + 192 ≤ pub.dmemSize ∧
    (bad.getPoint .g1 0).all (valid pub) = false ∧ (0 : Idx).val + (1 : BitVec 8).toNat ≤ 8 ∧
    bad.pointOk .g1 (nthAfter 0 0) = false ∧ bad.cfg.Sized ∧ (bad.getPoint .g1 0).z ≠ 0 ∧
    (bad.getPoint .g2 0).z ≠ 0 ∧ bad.pairs.length ≠ pub.maxPairs ∧
    [Pair.residues pub ⟨g1T.x, g1T.y, g2Other.x, g2Other.y⟩].all pub.pairInDomain = false :=
  ⟨by decide +kernel, by decide +kernel, by decide +kernel, by decide, by decide +kernel, published_sized,
    by decide +kernel, by decide +kernel, by decide +kernel, by decide +kernel⟩

theorem witness_PointOutOfDomain_scalar :
    let s := (g1s g1T inf).setSc 0 (BitVec.allOnes 768)
    s.cfg.Sized ∧ (∀ k < (1 : BitVec 8).toNat, s.pointOk .g1 (nthAfter 0 k) = true) ∧
    bitLen s.cfg.rOrd < bitLen (s.getSc (nthAfter 0 0)).toNat :=
  ⟨published_sized, by decide +kernel, by decide +kernel⟩

end Sys2Proof.Tests
end

section
/-! The base field commands read and keep nothing but the base field, the scalars, the buffer and the control
registers (R3): how each shared operation commutes with a replacement of everything else. -/
namespace Sys2Proof.Machine

/-- The part of the state that the base field commands have nothing to do with: the extension and point registers and
the pair list. -/
structure OtherFiles where
  fp3 : Vector (CubicElt Fp) 8
  fp6 : Vector (SexticElt Fp) 8
  g1 : Vector (Point Fp) 8
  g2 : Vector (Point Fp) 8
  pairs : List (Pair Fp)

/-- The state with that part replaced. -/
def State.withOthers (s : State) (o : OtherFiles) : State :=
  { s with fp3 := o.fp3, fp6 := o.fp6, g1 := o.g1, g2 := o.g2, pairs := o.pairs }

/-- A meaning completes, gives the same result whatever the other files hold, and keeps them. -/
def IgnoresOthers (f : State → Result) : Prop :=
  ∀ s o, ∃ t, f s = .next t ∧ f (s.withOthers o) = .next (t.withOthers o)

section
variable (s : State) (o : OtherFiles)

theorem State.putFp_withOthers (rd : FpIdx) (v : Option Fp) :
    (s.withOthers o).putFp rd v = (s.putFp rd v).withOthers o := by
  cases v <;> rfl

theorem State.putB_withOthers (b : Option Bool) : (s.withOthers o).putB b = (s.putB b).withOthers o := by
  cases b <;> rfl

theorem errorEntry_withOthers (e : CoreError) (w : Word) :
    errorEntry e w (s.withOthers o) = (errorEntry e w s).withOthers o := rfl

end

/-! ### The shared operations -/

/-- A command that completes after an update that commutes with the replacement. -/
theorem IgnoresOthers.ofUpdate {u : State → State} (hu : ∀ s o, u (s.withOthers o) = (u s).withOthers o) :
    IgnoresOthers fun s => complete (u s) := fun s o =>
  ⟨(u s).counted, rfl, congrArg complete (hu s o)⟩

theorem IgnoresOthers.setFp {v : State → Fp} (rd : FpIdx) (hv : ∀ s o, v (s.withOthers o) = v s) :
    IgnoresOthers fun s => complete (s.setFp rd (v s)) :=
  .ofUpdate fun s o => by rw [hv]; rfl

theorem IgnoresOthers.setSc {v : State → Fp} (rd : Idx) (hv : ∀ s o, v (s.withOthers o) = v s) :
    IgnoresOthers fun s => complete (s.setSc rd (v s)) :=
  .ofUpdate fun s o => by rw [hv]; rfl

theorem IgnoresOthers.setB {b : State → Bool} (hb : ∀ s o, b (s.withOthers o) = b s) :
    IgnoresOthers fun s => complete (s.setB (b s)) :=
  .ofUpdate fun s o => by rw [hb]; rfl

theorem IgnoresOthers.setCmp {b : State → BitVec 2} (hb : ∀ s o, b (s.withOthers o) = b s) :
    IgnoresOthers fun s => complete (s.setCmp (b s)) :=
  .ofUpdate fun s o => by rw [hb]; rfl

theorem IgnoresOthers.putFp {v : State → Option Fp} (rd : FpIdx) (hv : ∀ s o, v (s.withOthers o) = v s) :
    IgnoresOthers fun s => complete (s.putFp rd (v s)) :=
  .ofUpdate fun s o => by rw [hv]; exact s.putFp_withOthers o rd (v s)

theorem IgnoresOthers.putB {b : State → Option Bool} (hb : ∀ s o, b (s.withOthers o) = b s) :
    IgnoresOthers fun s => complete (s.putB (b s)) :=
  .ofUpdate fun s o => by rw [hb]; exact s.putB_withOthers o (b s)

theorem IgnoresOthers.fpUnary (ok : Config → Fp → Bool) (f : Config → Fp → Fp) (rd ra : FpIdx) :
    IgnoresOthers (fpUnary ok f rd ra) := .putFp rd fun _ _ => rfl

theorem IgnoresOthers.fpBinary (ok : Config → Fp → Bool) (f : Config → Fp → Fp → Fp) (rd ra rb : FpIdx) :
    IgnoresOthers (fpBinary ok f rd ra rb) := .putFp rd fun _ _ => rfl

theorem IgnoresOthers.fpLazy {ok : State → Bool} {exact' : State → Nat} (rd : FpIdx)
    (hok : ∀ s o, ok (s.withOthers o) = ok s) (he : ∀ s o, exact' (s.withOthers o) = exact' s) :
    IgnoresOthers fun s => fpLazy (ok s) (exact' s) (exact' s) rd s := fun s o => by
  simp only [hok, he]
  cases ok s <;> exact ⟨_, rfl, rfl⟩

theorem IgnoresOthers.loadString {f : List Byte → State → Result} (w : Word) (ok : Nat → Bool)
    (hf : ∀ str, IgnoresOthers (f str)) : IgnoresOthers fun s => loadString w ok s (f · s) := fun s o => by
  simp only [Machine.loadString, raise_eq, errorEntry_withOthers]
  by_cases hr : s.dptr.toNat + s.dlen.toNat > s.cfg.dmemSize
  · exact ⟨_, if_pos hr, if_pos hr⟩
  · by_cases hl : ok s.dlen.toNat
    · obtain ⟨t, h, h'⟩ := hf (memRead s.dmem s.dptr.toNat s.dlen.toNat) s o
      exact ⟨t, by rw [if_neg hr, if_pos hl, h], (if_neg hr).trans ((if_pos hl).trans h')⟩
    · exact ⟨_, (if_neg hr).trans (if_neg hl), (if_neg hr).trans (if_neg hl)⟩

theorem IgnoresOthers.storeString {bytes : State → List Byte} (w : Word)
    (hb : ∀ s o, bytes (s.withOthers o) = bytes s) : IgnoresOthers fun s => storeString w (bytes s) s := fun s o => by
  simp only [Machine.storeString, raise_eq, errorEntry_withOthers, hb]
  by_cases hr : s.dptr.toNat + (bytes s).length > s.cfg.dmemSize
  · exact ⟨_, if_pos hr, if_pos hr⟩
  · exact ⟨_, if_neg hr, if_neg hr⟩

/-- `FP.SQRT` writes its register and `FLAG.B`, both drawn out of domain (R141). -/
theorem IgnoresOthers.fpSqrt (rd ra : FpIdx) : IgnoresOthers (execFpSqrt rd ra) := fun s o => by
  unfold execFpSqrt
  by_cases hv : valid s.cfg (s.getFp ra) = true
  · refine ⟨_, if_pos hv, (if_pos hv).trans ?_⟩
    simp only [complete_eq]
    exact congrArg (fun t : State => Host.Outcome.next (t.setB _).counted) (s.putFp_withOthers o rd _)
  · exact ⟨_, if_neg hv, (if_neg hv).trans rfl⟩

/-! ### The commands of the family -/

/-- Every command with an opcode from `0x10` to `0x2E` ignores the other files; no other command has one. -/
theorem ignoresOthers_of_isBaseField (i : Instr) (h : i.isBaseField = true) : IgnoresOthers (exec i) := by
  cases i
  case fpZero rd | fpOne rd | fpModulus rd => exact .setFp rd fun _ _ => rfl
  case fpMov rd ra | fpFromSc rd ra => exact .setFp rd fun _ _ => rfl
  case fpToSc rd ra => exact .setSc rd fun _ _ => rfl
  case fpLd rd =>
    unfold exec
    exact .loadString _ _ fun _ => .putFp rd fun _ _ => rfl
  case fpSt ra =>
    unfold exec
    exact .storeString _ fun _ _ => rfl
  case fpToMont rd ra | fpFromMont rd ra | fpDouble rd ra | fpNeg rd ra | fpSquare rd ra | fpInv rd ra |
      fpMulNr rd ra =>
    unfold exec
    exact .fpUnary _ _ rd ra
  case fpExp rd ra rb =>
    unfold exec
    exact .putFp rd fun _ _ => rfl
  case fpAdd rd ra rb | fpSub rd ra rb | fpMul rd ra rb =>
    unfold exec
    exact .fpBinary _ _ rd ra rb
  case fpLAdd rd ra rb | fpLSub rd ra rb =>
    unfold exec
    exact .fpLazy rd (fun _ _ => rfl) fun _ _ => rfl
  case fpLDouble rd ra =>
    unfold exec
    exact .fpLazy rd (fun _ _ => rfl) fun _ _ => rfl
  case fpSqrt rd ra => exact .fpSqrt rd ra
  case fpIsQnr ra =>
    unfold exec
    exact .putB fun _ _ => rfl
  case fpCmp ra rb => exact .setCmp fun _ _ => rfl
  case fpEq ra rb => exact .setB fun _ _ => rfl
  case fpIsZero ra | fpIsOne ra | fpIsOdd ra | fpIsEven ra | fpIsValid ra => exact .setB fun _ _ => rfl
  all_goals simp [Instr.isBaseField, encode] at h

/-- Settles O21: every base field command commutes with a replacement of the other files. -/
theorem baseFieldIndependence : Obligations.BaseFieldIndependence := by
  unfold Obligations.BaseFieldIndependence
  intro i s t3 t6 p q l h
  exact ignoresOthers_of_isBaseField i h s ⟨t3, t6, p, q, l⟩

end Sys2Proof.Machine
end

section
/-! What the shared operations answer on an operand out of its domain: a drawn destination of full range (R17). -/
namespace Sys2Proof.Machine

variable (s : State)

/-! ### The shapes of the field commands -/

theorem fpUnary_outOfDomain {ok : Config → Fp → Bool} (f : Config → Fp → Fp) (rd ra : FpIdx)
    (h : ok s.cfg (s.getFp ra) = false) :
    fpUnary ok f rd ra s = .next ((s.setFp rd (s.free 0)).spend 1).counted := by
  rw [fpUnary, h]; rfl

theorem fpBinary_outOfDomain {ok : Config → Fp → Bool} (f : Config → Fp → Fp → Fp) (rd ra rb : FpIdx)
    (h : (ok s.cfg (s.getFp ra) && ok s.cfg (s.getFp rb)) = false) :
    fpBinary ok f rd ra rb s = .next ((s.setFp rd (s.free 0)).spend 1).counted := by
  rw [fpBinary, h]; rfl

theorem fpLazy_outOfDomain {ok : Bool} (exact' named : Nat) (rd : FpIdx) (h : ok = false) :
    fpLazy ok exact' named rd s = .next ((s.setFp rd (s.free 0)).spend 1).counted := by
  rw [h]; rfl

theorem execFpSqrt_outOfDomain (rd ra : FpIdx) (h : valid s.cfg (s.getFp ra) = false) :
    execFpSqrt rd ra s =
      .next ((((s.setFp rd (s.free 0)).spend 1).setB ((s.free 1).getLsbD 0)).spend 1).counted := by
  simp only [execFpSqrt, h, Bool.false_eq_true, if_false]; rfl

theorem fp3Unary_outOfDomain {ok : Config → Fp → Bool} (f : Config → CubicElt Fp → CubicElt Fp) (rd ra : Idx)
    (h : (s.getFp3 ra).all (ok s.cfg) = false) :
    fp3Unary ok f rd ra s = .next ((s.setFp3 rd (s.freeCubic 0)).spend 3).counted := by
  rw [fp3Unary, h]; rfl

theorem fp3Binary_outOfDomain {ok : Config → Fp → Bool} (f : Config → CubicElt Fp → CubicElt Fp → CubicElt Fp)
    (rd ra rb : Idx) (h : ((s.getFp3 ra).all (ok s.cfg) && (s.getFp3 rb).all (ok s.cfg)) = false) :
    fp3Binary ok f rd ra rb s = .next ((s.setFp3 rd (s.freeCubic 0)).spend 3).counted := by
  rw [fp3Binary, h]; rfl

theorem execFp3LAdd_outOfDomain (rd ra rb : Idx)
    (h : ((s.getFp3 ra).all (valid s.cfg) && (s.getFp3 rb).all (valid s.cfg)) = false) :
    execFp3LAdd rd ra rb s = .next ((s.setFp3 rd (s.freeCubic 0)).spend 3).counted := by
  simp only [execFp3LAdd, h, Bool.false_eq_true, if_false]; rfl

theorem execFp3Mul0_outOfDomain (rd ra rb : Idx)
    (h : ((s.getFp3 ra).all (lazyOk s.cfg) && lazyOk s.cfg (s.getFp3 rb).c0) = false) :
    execFp3Mul0 rd ra rb s = .next ((s.setFp3 rd (s.freeCubic 0)).spend 3).counted := by
  simp only [execFp3Mul0, h, inDomain_false]; rfl

theorem fp6Unary_outOfDomain {ok : Config → Fp → Bool} (f : Config → SexticElt Fp → SexticElt Fp) (rd ra : Idx)
    (h : (s.getFp6 ra).all (ok s.cfg) = false) :
    fp6Unary ok f rd ra s = .next ((s.setFp6 rd s.freeSextic).spend 6).counted := by
  rw [fp6Unary, h]; rfl

theorem fp6Binary_outOfDomain {ok : Config → Fp → Bool} (f : Config → SexticElt Fp → SexticElt Fp → SexticElt Fp)
    (rd ra rb : Idx) (h : ((s.getFp6 ra).all (ok s.cfg) && (s.getFp6 rb).all (ok s.cfg)) = false) :
    fp6Binary ok f rd ra rb s = .next ((s.setFp6 rd s.freeSextic).spend 6).counted := by
  rw [fp6Binary, h]; rfl

theorem fp6Sparse_outOfDomain (sparse : Nat → Nat → Nat → SexticElt Nat) (rd : Idx) (x y z : FpIdx)
    (h : ((s.getFp6 rd).all (lazyOk s.cfg) && lazyOk s.cfg (s.getFp x) && lazyOk s.cfg (s.getFp y) &&
      lazyOk s.cfg (s.getFp z)) = false) :
    fp6Sparse sparse rd x y z s = .next ((s.setFp6 rd s.freeSextic).spend 6).counted := by
  simp only [fp6Sparse, h, inDomain_false]; rfl

theorem execFp6LAdd_outOfDomain (rd ra rb : Idx)
    (h : ((s.getFp6 ra).all (valid s.cfg) && (s.getFp6 rb).all (valid s.cfg)) = false) :
    execFp6LAdd rd ra rb s = .next ((s.setFp6 rd s.freeSextic).spend 6).counted := by
  simp only [execFp6LAdd, h, Bool.false_eq_true, if_false]; rfl

theorem execFp6CycSq_outOfDomain (rd ra : Idx)
    (h : ((s.getFp6 ra).all (valid s.cfg) && s.cfg.isCyclotomic (s.cfg.dec6 (s.getFp6 ra))) = false) :
    execFp6CycSq rd ra s = .next ((s.setFp6 rd s.freeSextic).spend 6).counted := by
  simp only [execFp6CycSq, h, inDomain_false]; rfl

theorem execFexpHard_outOfDomain (rd ra : Idx)
    (h : ((s.getFp6 ra).all (valid s.cfg) && s.cfg.isCyclotomic (s.cfg.dec6 (s.getFp6 ra))) = false) :
    execFexpHard rd ra s = .next ((s.setFp6 rd s.freeSextic).spend 6).counted := by
  simp only [execFexpHard, h, inDomain_false]; rfl

theorem execFexp_outOfDomain (rd ra : Idx)
    (h : ((s.getFp6 ra).all (valid s.cfg) && s.cfg.dec6 (s.getFp6 ra) != Config.zero6) = false) :
    execFexp rd ra s = .next ((s.setFp6 rd s.freeSextic).spend 6).counted := by
  simp only [execFexp, h, inDomain_false]; rfl

/-- A predicate with a domain draws `FLAG.B` outside it. -/
theorem drawsB_of_outOfDomain {i : Instr} {ok answer : Bool} (hi : exec i s = complete (s.putB (inDomain ok answer)))
    (h : ok = false) : DrawsB i s := by
  rw [DrawsB, hi, h]; rfl

/-! ### The field families -/

/-- Settles O59: each command has a shape that it shares with others, and every shape draws its destination out of domain. -/
theorem fieldOutOfDomain : Obligations.FieldOutOfDomain := by
  unfold Obligations.FieldOutOfDomain
  simp only [List.forall_mem_cons, List.not_mem_nil, false_implies, implies_true, and_true]
  refine ⟨fun s rd ra rb k => ⟨fun h => ?_, fun h => ?_, fun h => ?_, fun h => ?_⟩,
    fun s rd ra rb imm8 => ⟨fun h => ?_, fun h => ?_, fun h => ?_, fun h => ?_, fun h => ?_⟩,
    fun s rd ra rb imm8 x y z =>
      ⟨fun h => ?_, fun h => ?_, fun h => ?_, fun h => ?_, fun h => ?_, fun h => ?_, fun h => ?_⟩⟩
  -- The base field
  · refine ⟨?_, drawsB_of_outOfDomain s rfl h, execFpSqrt_outOfDomain s rd ra h⟩
    have unary (f) := fpUnary_outOfDomain s f rd ra h
    simp only [exec, execFpDouble, execFpNeg, execFpInv, execFpExp, execFpMulNr, unary, execFpLDouble,
      fpLazy_outOfDomain s _ _ rd h, and_self]
  · have binary (f) := fpBinary_outOfDomain s f rd ra rb h
    simp only [exec, execFpAdd, execFpSub, binary, execFpLAdd, execFpLSub, fpLazy_outOfDomain s _ _ rd h, and_self]
  · have unary (f) := fpUnary_outOfDomain s f rd ra h
    simp only [exec, execFpToMont, execFpFromMont, execFpSquare, unary, and_self]
  · simp only [exec, execFpMul, fpBinary_outOfDomain s _ rd ra rb h]
  -- The cubic extension
  · have unary (f) := fp3Unary_outOfDomain s f rd ra h
    simp only [exec, execFp3Double, execFp3Neg, execFp3Inv, execFp3Exp, execFp3Frob, unary, and_self]
  · have binary (f) := fp3Binary_outOfDomain s f rd ra rb h
    simp only [exec, execFp3Add, execFp3Sub, binary, execFp3LAdd_outOfDomain s rd ra rb h, and_self]
  · simp only [exec, execFp3Square, fp3Unary_outOfDomain s _ rd ra h]
  · simp only [exec, execFp3Mul, fp3Binary_outOfDomain s _ rd ra rb h]
  · exact execFp3Mul0_outOfDomain s rd ra rb h
  -- The sextic extension and the final exponentiation
  · refine ⟨?_, drawsB_of_outOfDomain s rfl h⟩
    have unary (f) := fp6Unary_outOfDomain s f rd ra h
    simp only [exec, execFp6Double, execFp6Neg, execFp6Inv, execFp6Exp, execFp6Conj, execFp6Frob, execFexpEasy,
      unary, and_self]
  · have binary (f) := fp6Binary_outOfDomain s f rd ra rb h
    simp only [exec, execFp6Add, execFp6Sub, binary, execFp6LAdd_outOfDomain s rd ra rb h, and_self]
  · simp only [exec, execFp6Square, fp6Unary_outOfDomain s _ rd ra h]
  · simp only [exec, execFp6Mul, fp6Binary_outOfDomain s _ rd ra rb h]
  · exact ⟨fp6Sparse_outOfDomain s _ rd x y z h, fp6Sparse_outOfDomain s _ rd x y z h⟩
  · exact ⟨execFp6CycSq_outOfDomain s rd ra h, execFexpHard_outOfDomain s rd ra h⟩
  · exact execFexp_outOfDomain s rd ra h

end Sys2Proof.Machine
end

section
/-! Stored byte strings: a byte after the write of a string, and the big-endian bytes of Fp values as the bytes of one
integer (R53, R55). -/
namespace Sys2Proof.Machine

/-- A write sets the bytes of its string and no other byte (R53). -/
theorem readByte_memWrite (str : List Byte) : ∀ (m : Memory) (addr a : Nat), readByte (memWrite m addr str) a =
    if addr ≤ a ∧ a < addr + str.length then str.getD (a - addr) 0 else readByte m a := by
  induction str with
  | nil => intro m addr a; rw [if_neg (by simp)]; rfl
  | cons b rest ih =>
    intro m addr a
    rw [memWrite, ih, readByte_writeByte, List.length_cons]
    rcases Nat.lt_trichotomy a addr with h | rfl | h
    · rw [if_neg (by omega), if_neg (by omega), if_neg (by omega)]
    · rw [if_neg (by omega), if_pos rfl, if_pos (by omega), Nat.sub_self, List.getD_cons_zero]
    · obtain ⟨k, rfl⟩ : ∃ k, a = addr + 1 + k := ⟨a - (addr + 1), by omega⟩
      rw [show addr + 1 + k - addr = k + 1 by omega, Nat.add_sub_cancel_left, List.getD_cons_succ]
      by_cases hk : k < rest.length
      · rw [if_pos (by omega), if_pos (by omega)]
      · rw [if_neg (by omega), if_neg (by omega), if_neg (by omega)]

/-- The byte at position `k` of the big-endian form. -/
theorem bytesOf_getD {n k : Nat} (v : Nat) (hk : k < n) :
    (bytesOf n v).getD k 0 = BitVec.ofNat 8 (v / 256 ^ (n - 1 - k)) := by
  induction n generalizing v with
  | zero => omega
  | succ n ih =>
    rw [bytesOf]
    by_cases h : k < n
    · rw [List.getD_append _ _ _ _ (by simpa using h), ih _ h, Nat.div_div_eq_div_mul, ← Nat.pow_succ',
        show n + 1 - 1 - k = n - 1 - k + 1 by omega]
    · obtain rfl : k = n := by omega
      simp

/-- The big-endian form of a joined integer is the joined big-endian form. -/
theorem bytesOf_add (m n a : Nat) {b : Nat} (hb : b < 256 ^ n) :
    bytesOf (m + n) (a * 256 ^ n + b) = bytesOf m a ++ bytesOf n b := by
  induction n generalizing b with
  | zero =>
    obtain rfl : b = 0 := by simpa using hb
    simp [bytesOf]
  | succ n ih =>
    rw [pow_succ] at hb
    have hlast : BitVec.ofNat 8 (a * 256 ^ n * 256 + b) = BitVec.ofNat 8 b := by
      apply BitVec.eq_of_toNat_eq
      simp only [BitVec.toNat_ofNat]
      omega
    have hrest : (a * 256 ^ n * 256 + b) / 256 = a * 256 ^ n + b / 256 := by omega
    rw [pow_succ, ← mul_assoc, ← Nat.add_assoc, bytesOf, hrest, hlast, ih (by omega), bytesOf, List.append_assoc]

theorem joined_concat (xs : List Fp) (x : Fp) : joined (xs ++ [x]) = joined xs * 2 ^ 768 + x.toNat := by
  simp [joined]

/-- The bytes of Fp values in order are the big-endian form of the values joined (R62 to R65). -/
theorem flatMap_fpBytes (xs : List Fp) : xs.flatMap fpBytes = bytesOf (96 * xs.length) (joined xs) := by
  have hp : (2 : Nat) ^ 768 = 256 ^ 96 := by decide +kernel
  induction xs using List.reverseRecOn with
  | nil => rfl
  | append_singleton xs x ih =>
    rw [List.flatMap_append, ih, joined_concat, hp, List.length_append,
      List.length_singleton, Nat.mul_add, bytesOf_add _ _ _ (hp ▸ x.isLt)]
    simp [fpBytes]

/-- A command that writes the big-endian form of `value` at `DPTR` stores it. -/
theorem stores_of_memWrite {i : Instr} {s : State} {n value draws : Nat}
    (h : exec i s = .next { s with
      dmem := memWrite s.dmem s.dptr.toNat (bytesOf n value), draws := s.draws + draws, cmdcnt := s.cmdcnt + 1 }) :
    Stores i s n value draws := by
  refine ⟨_, h, fun a => ?_⟩
  rw [readByte_memWrite, bytesOf_length]
  split
  · exact bytesOf_getD value (by omega)
  · rfl

end Sys2Proof.Machine
end

section
/-! What the point and pairing operations answer on an operand out of its domain (R17, R223, R272, R308). -/
namespace Sys2Proof.Machine

variable (s : State)

/-! ### The shapes of the point commands -/

section
variable {g : CurveGroup} {ra rb : Idx}

theorem pointDouble_outOfDomain (rd : Idx) (h : s.pointOk g ra = false) :
    pointDouble g rd ra s = .next ((s.setPoint g rd s.freePoint).spend 3).counted := by
  rw [pointDouble, h]; rfl

theorem pointAffine_outOfDomain (rd : Idx) (h : s.pointOk g ra = false) :
    pointAffine g rd ra s = .next ((s.setPoint g rd s.freePoint).spend 3).counted := by
  rw [pointAffine, h]; rfl

theorem pointMulSc_outOfDomain (rd rb : Idx) (h : s.pointOk g ra = false) :
    pointMulSc g rd ra rb s = .next ((s.setPoint g rd s.freePoint).spend 3).counted := by
  rw [pointMulSc, h]; rfl

theorem pointClrCof_outOfDomain (rd : Idx) (h : s.pointOk g ra = false) :
    pointClrCof g rd ra s = .next ((s.setPoint g rd s.freePoint).spend 3).counted := by
  rw [pointClrCof, h]; rfl

theorem pointAdd_outOfDomain (rd : Idx) (h : (s.pointOk g ra && s.pointOk g rb) = false) :
    pointAdd g rd ra rb s = .next ((s.setPoint g rd s.freePoint).spend 3).counted := by
  rw [pointAdd, h]; rfl

theorem pointSub_outOfDomain (rd : Idx) (h : (s.pointOk g ra && s.pointOk g rb) = false) :
    pointSub g rd ra rb s = .next ((s.setPoint g rd s.freePoint).spend 3).counted := by
  rw [pointSub, h]; rfl

theorem pointNeg_outOfDomain (rd : Idx) (h : (s.getPoint g ra).all (valid s.cfg) = false) :
    pointNeg g rd ra s = .next ((s.setPoint g rd s.freePoint).spend 3).counted := by
  simp only [pointNeg, h, inDomain_false]; rfl

/-- A point store in range writes the bytes of two free values (log entry 14). -/
theorem pointSt_outOfDomain (w : Word) (h : s.pointOk g ra = false) (hr : s.dptr.toNat + 192 ≤ s.cfg.dmemSize) :
    pointSt w g ra s = .next { s with
      dmem := memWrite s.dmem s.dptr.toNat (bytesOf 192 (joined [s.free 0, s.free 1]))
      draws := s.draws + 2, cmdcnt := s.cmdcnt + 1 } := by
  have hb : fpBytes (s.free 0) ++ fpBytes (s.free 1) = bytesOf 192 (joined [s.free 0, s.free 1]) := by
    simpa using flatMap_fpBytes [s.free 0, s.free 1]
  simp only [pointSt, h, Bool.false_eq_true, if_false, if_neg (Nat.not_lt.mpr hr), hb]
  rcases storeString_cases (s.spend 2) w (bytesOf 192 (joined [s.free 0, s.free 1])) with ⟨hlt, -⟩ | ⟨-, e⟩
  · rw [bytesOf_length] at hlt
    exact absurd hr (Nat.not_le.mpr hlt)
  · exact e

end

/-! ### Multi-scalar multiplication -/

theorem msmOperands_eq_none {ra rb : Idx} {imm8 : BitVec 8} (ha : ra.val + imm8.toNat ≤ 8)
    (hb : rb.val + imm8.toNat ≤ 8) : msmOperands ra rb imm8 = none := by
  rw [msmOperands, if_neg (by omega), if_neg (by omega)]

/-- A point of the range out of domain gives a draw of full range (R223). -/
theorem pointMsm_outOfDomain (w : Word) (g : CurveGroup) (rd : Idx) {ra rb : Idx} {imm8 : BitVec 8}
    (hw : msmOperands ra rb imm8 = none) (h : ∃ k < imm8.toNat, s.pointOk g (nthAfter ra k) = false) :
    pointMsm w g rd ra rb imm8 s = .next ((s.setPoint g rd s.freePoint).spend 3).counted := by
  have hall : ¬∀ k < imm8.toNat, s.pointOk g (nthAfter ra k) = true := by simpa using h
  simp only [pointMsm, hw, Option.isSome_none, Bool.false_eq_true, if_false, List.all_map, List.all_eq_true,
    List.mem_range, Function.comp_apply, hall]
  rfl

/-- Valid components, from a modulus that a register can hold. -/
theorem valid_ofNat_mod {c : Config} (h : c.Sized) (v : Nat) : valid c (BitVec.ofNat 768 (v % c.pMod)) = true := by
  have hv := Nat.mod_lt v h.pos
  rw [valid, decide_eq_true_eq, BitVec.toNat_ofNat, Nat.mod_eq_of_lt (hv.trans h.lt_word)]
  exact hv

/-- Points in domain and a scalar longer than the order: drawn valid components (R272). -/
theorem pointMsm_longScalar (w : Word) (g : CurveGroup) (rd : Idx) {ra rb : Idx} {imm8 : BitVec 8}
    (hw : msmOperands ra rb imm8 = none) (hsized : s.cfg.Sized)
    (hok : ∀ k < imm8.toNat, s.pointOk g (nthAfter ra k) = true)
    (h : ∃ k < imm8.toNat, bitLen s.cfg.rOrd < bitLen (s.getSc (nthAfter rb k)).toNat) :
    ∃ v : Point Fp, v.all (valid s.cfg) = true ∧
      pointMsm w g rd ra rb imm8 s = .next ((s.setPoint g rd v).spend 3).counted := by
  have hlong : ¬∀ k < imm8.toNat, bitLen (s.getSc (nthAfter rb k)).toNat ≤ bitLen s.cfg.rOrd := by simpa using h
  refine ⟨s.freePoint.map fun v => BitVec.ofNat 768 (v.toNat % s.cfg.pMod), ?_, ?_⟩
  · simp [Point.all, Point.map, valid_ofNat_mod hsized]
  · simp only [pointMsm, hw, Option.isSome_none, Bool.false_eq_true, if_false, List.all_map, List.all_eq_true,
      List.mem_range, Function.comp_apply, decide_eq_true_eq, if_neg hlong]
    rw [if_pos hok]
    rfl

/-! ### Pairing -/

theorem validPair_freePair (h : s.cfg.Sized) : validPair s.cfg s.freePair = true := by
  simp [validPair, State.freePair, valid_ofNat_mod h]

/-- Two finite points, not both in domain, and room: a drawn entry is queued (log entry 11). -/
theorem queue_outOfDomain (w : Word) (side : Fp → Fp) {ra rb : Idx}
    (h : (s.pointOk .g1 ra && s.pointOk .g2 rb) = false) (hp : (s.getPoint .g1 ra).z ≠ 0) (hq : (s.getPoint .g2 rb).z ≠ 0) (hroom : s.pairs.length ≠ s.cfg.maxPairs) :
    queue w side ra rb s = .next
      { s with pairs := s.pairs ++ [s.freePair], draws := s.draws + 4, cmdcnt := s.cmdcnt + 1 } := by
  have hnone : queuedPair s side ra rb = none := by rw [queuedPair, h, inDomain_false]
  simp only [queue, hp, hq, hroom, or_self, if_false, hnone]
  rfl

theorem pairingValue_eq_none (h : s.entries.all s.cfg.pairInDomain = false) : s.pairingValue = none := by
  rw [State.pairingValue, h, inDomain_false]

/-! ### The point and pairing families -/

/-- Settles O60: each command has a shape that it shares over its group, and every shape draws its destination out of
domain. -/
theorem pointOutOfDomain : Obligations.PointOutOfDomain := by
  unfold Obligations.PointOutOfDomain
  simp only [List.mem_cons, List.not_mem_nil, or_false, Prod.mk.injEq]
  refine ⟨fun s rd ra rb g => ⟨fun h => ⟨?_, ?_, ?_⟩, fun h => ⟨?_, ?_⟩, fun h => ⟨?_, ?_⟩⟩,
    fun s rd ra rb imm8 g ha hb i hi => ?_, fun s ra rb i hi hsized h hp hq hroom => ?_, fun s rd h => ⟨?_, ?_, ?_⟩⟩
  -- One operand in the domain of the point commands
  · rintro i (⟨rfl, rfl⟩ | ⟨rfl, rfl⟩ | ⟨rfl, rfl⟩ | ⟨rfl, rfl⟩ | ⟨rfl, rfl⟩ | ⟨rfl, rfl⟩ | ⟨rfl, rfl⟩ | ⟨rfl, rfl⟩)
    exacts [pointDouble_outOfDomain s rd h, pointDouble_outOfDomain s rd h, pointAffine_outOfDomain s rd h,
      pointAffine_outOfDomain s rd h, pointMulSc_outOfDomain s rd rb h, pointMulSc_outOfDomain s rd rb h,
      pointClrCof_outOfDomain s rd h, pointClrCof_outOfDomain s rd h]
  · rintro rfl
    exact drawsB_of_outOfDomain s rfl h
  · rintro hr i (⟨rfl, rfl⟩ | ⟨rfl, rfl⟩) <;> exact stores_of_memWrite (pointSt_outOfDomain s _ h hr)
  -- Two operands in the domain of the point commands
  · rintro i (⟨rfl, rfl⟩ | ⟨rfl, rfl⟩ | ⟨rfl, rfl⟩ | ⟨rfl, rfl⟩)
    exacts [pointAdd_outOfDomain s rd h, pointAdd_outOfDomain s rd h, pointSub_outOfDomain s rd h,
      pointSub_outOfDomain s rd h]
  · rintro i (⟨rfl, rfl⟩ | ⟨rfl, rfl⟩) <;> exact drawsB_of_outOfDomain s rfl h
  -- Valid components
  · rintro i (⟨rfl, rfl⟩ | ⟨rfl, rfl⟩) <;> exact pointNeg_outOfDomain s rd h
  · rintro i (⟨rfl, rfl⟩ | ⟨rfl, rfl⟩) <;> exact drawsB_of_outOfDomain s rfl h
  -- Multi-scalar multiplication
  · have hw := msmOperands_eq_none ha hb
    rcases hi with ⟨rfl, rfl⟩ | ⟨rfl, rfl⟩
    · exact ⟨pointMsm_outOfDomain s _ .g1 rd hw, fun hok hsized => pointMsm_longScalar s _ .g1 rd hw hsized hok⟩
    · exact ⟨pointMsm_outOfDomain s _ .g2 rd hw, fun hok hsized => pointMsm_longScalar s _ .g2 rd hw hsized hok⟩
  -- Queueing
  · refine ⟨s.freePair, validPair_freePair s hsized, ?_⟩
    rcases hi with rfl | rfl
    · exact queue_outOfDomain s _ id h hp hq hroom
    · exact queue_outOfDomain s _ (rawNeg s.cfg) h hp hq hroom
  -- The pairing value of a list with an entry outside the subgroups
  · simp only [exec, execPairResult, pairingValue_eq_none s h]
    rfl
  · simp only [exec, execPairCheck, pairingValue_eq_none s h]
    rfl
  · simp only [exec, execPairMiller, h, Bool.false_eq_true, if_false]
    rfl

end Sys2Proof.Machine
end

section
/-! What one command can do to the state: an inversion of `exec`, from which every frame and the invariant follow. -/
namespace Sys2Proof.Machine

/-! ### A register of any file -/

/-- What a register of each file holds (R21 to R26). -/
abbrev Register.Value : Register → Type
  | .fp _ | .sc _ => Fp
  | .fp3 _ => CubicElt Fp
  | .fp6 _ => SexticElt Fp
  | .g1 _ | .g2 _ => Point Fp

/-- The register `i` of a group's file (R220). -/
def pointRegister : CurveGroup → Idx → Register
  | .g1, i => .g1 i
  | .g2, i => .g2 i

def State.getRegister (s : State) : (r : Register) → Register.Value r
  | .fp i => s.getFp i
  | .fp3 i => s.getFp3 i
  | .fp6 i => s.getFp6 i
  | .g1 i => s.getPoint .g1 i
  | .g2 i => s.getPoint .g2 i
  | .sc i => s.getSc i

def State.setRegister (s : State) : (r : Register) → Register.Value r → State
  | .fp i, v => s.setFp i v
  | .fp3 i, v => s.setFp3 i v
  | .fp6 i, v => s.setFp6 i v
  | .g1 i, v => s.setPoint .g1 i v
  | .g2 i, v => s.setPoint .g2 i v
  | .sc i, v => s.setSc i v

section
variable (s : State) (r : Register) (v : Register.Value r)

@[simp] theorem State.setRegister_pairs : (s.setRegister r v).pairs = s.pairs := by cases r <;> rfl
@[simp] theorem State.setRegister_err : (s.setRegister r v).err = s.err := by cases r <;> rfl
@[simp] theorem State.setRegister_errcmd : (s.setRegister r v).errcmd = s.errcmd := by cases r <;> rfl
@[simp] theorem State.setRegister_erridx : (s.setRegister r v).erridx = s.erridx := by cases r <;> rfl
@[simp] theorem State.setRegister_flag : (s.setRegister r v).flag = s.flag := by cases r <;> rfl
@[simp] theorem State.setRegister_dptr : (s.setRegister r v).dptr = s.dptr := by cases r <;> rfl
@[simp] theorem State.setRegister_dlen : (s.setRegister r v).dlen = s.dlen := by cases r <;> rfl
@[simp] theorem State.setRegister_cmdcnt : (s.setRegister r v).cmdcnt = s.cmdcnt := by cases r <;> rfl
@[simp] theorem State.setRegister_dmem : (s.setRegister r v).dmem = s.dmem := by cases r <;> rfl
@[simp] theorem State.setRegister_host : (s.setRegister r v).host = s.host := by cases r <;> rfl
@[simp] theorem State.setRegister_cfg : (s.setRegister r v).cfg = s.cfg := by cases r <;> rfl

theorem State.getRegister_setRegister_of_ne {q : Register} (h : r ≠ q) :
    (s.setRegister r v).getRegister q = s.getRegister q := by
  cases r <;> cases q
  case fp.fp i k => exact (s.getFp_setFp i k v).trans (if_neg fun e => h (congrArg _ e))
  case fp3.fp3 i k => exact (s.getFp3_setFp3 i k v).trans (if_neg fun e => h (congrArg _ e))
  case fp6.fp6 i k => exact (s.getFp6_setFp6 i k v).trans (if_neg fun e => h (congrArg _ e))
  case g1.g1 i k => exact (s.getPoint_setPoint .g1 .g1 i k v).trans (if_neg fun e => h (congrArg _ e.2))
  case g2.g2 i k => exact (s.getPoint_setPoint .g2 .g2 i k v).trans (if_neg fun e => h (congrArg _ e.2))
  case sc.sc i k => exact (s.getSc_setSc i k v).trans (if_neg fun e => h (congrArg _ e))
  all_goals rfl

end

/-! ### Error entry, field by field (R333) -/

section
variable (e : CoreError) (w : Word) (s : State)

@[simp] theorem errorEntry_pairs : (errorEntry e w s).pairs = s.pairs := rfl
@[simp] theorem errorEntry_flag : (errorEntry e w s).flag = s.flag := rfl
@[simp] theorem errorEntry_dptr : (errorEntry e w s).dptr = s.dptr := rfl
@[simp] theorem errorEntry_dlen : (errorEntry e w s).dlen = s.dlen := rfl
@[simp] theorem errorEntry_cmdcnt : (errorEntry e w s).cmdcnt = s.cmdcnt + 1 := rfl
@[simp] theorem errorEntry_dmem : (errorEntry e w s).dmem = s.dmem := rfl
@[simp] theorem errorEntry_host : (errorEntry e w s).host = s.host := rfl
@[simp] theorem errorEntry_cfg : (errorEntry e w s).cfg = s.cfg := rfl

end

/-! ### The effects -/

/-- The states a command can answer from `s`, each with what it asks of the command and of `s`. Free values may be
taken where a count `n` stands. -/
inductive Effect (i : Instr) (s : State) : State → Prop where
  /-- Nothing but the count. -/
  | counts : Effect i s s.counted
  /-- Error entry (R333). -/
  | error (e : CoreError) : Effect i s (errorEntry e (encode i) s)
  /-- The return from the error state (R338). -/
  | clearsError : i = .clrErr → Effect i s (clearError s).counted
  /-- `DPTR` written (R321). -/
  | setsPtr (a : BitVec 24) : i = .setPtr a → Effect i s (State.counted { s with dptr := a })
  /-- `DLEN` written (R322). -/
  | setsLen (a : BitVec 24) : i = .setLen a → Effect i s (State.counted { s with dlen := a })
  /-- The register of the operand `rd` written (R90). -/
  | writes (r : Register) (v : Register.Value r) (n : Nat) : i.destination = some r →
      Effect i s ((s.setRegister r v).spend n).counted
  /-- `FLAG.B` written (R33). -/
  | setsB (b : Bool) (n : Nat) : i.writesB = true → Effect i s ((s.setB b).spend n).counted
  /-- A register and `FLAG.B` written (R141). -/
  | writesAndSetsB (r : Register) (v : Register.Value r) (b : Bool) (n : Nat) : i.destination = some r →
      i.writesB = true → Effect i s (((s.setRegister r v).setB b).spend n).counted
  /-- `FLAG.CMP` written, never with `0b10` (R33, R144). -/
  | setsCmp (cmp : BitVec 2) : i.writesCmp = true → cmp ≠ 0b10 → Effect i s (s.setCmp cmp).counted
  /-- A byte string inside the buffer stored at `DPTR` (R53, R54). -/
  | stores (bytes : List Byte) (n : Nat) : bytes.length = i.storeWidth →
      s.dptr.toNat + i.storeWidth ≤ s.cfg.dmemSize →
      Effect i s (State.spend { s with dmem := memWrite s.dmem s.dptr.toNat bytes } n).counted
  /-- An entry queued where there is room (R310). -/
  | queues (k : Pair Fp) (n : Nat) : i.writesPairs = true → s.pairs.length ≠ s.cfg.maxPairs →
      (s.cfg.Sized → validPair s.cfg k = true) →
      Effect i s (State.spend { s with pairs := s.pairs ++ [k] } n).counted
  /-- The pair list emptied (R312). -/
  | empties : i.writesPairs = true → Effect i s (State.counted { s with pairs := [] })
  /-- The pair list emptied, its value written to a register (R313). -/
  | emptiesAndWrites (r : Register) (v : Register.Value r) (n : Nat) : i.writesPairs = true →
      i.destination = some r → Effect i s (State.counted { (s.setRegister r v).spend n with pairs := [] })
  /-- The pair list emptied, the answer about its value in `FLAG.B` (R314). -/
  | emptiesAndSetsB (b : Bool) (n : Nat) : i.writesPairs = true → i.writesB = true →
      Effect i s (State.counted { (s.setB b).spend n with pairs := [] })

/-- The result is a next state that is an effect of the command. -/
def Completes (i : Instr) (s : State) (result : Result) : Prop := ∃ t, result = .next t ∧ Effect i s t

/-! ### The shared operations complete -/

section
variable {i : Instr} {s : State}

theorem Completes.counts : Completes i s (complete s) := ⟨_, rfl, .counts⟩

theorem Completes.error {e : CoreError} : Completes i s (raise e (encode i) s) := ⟨_, raise_eq .., .error e⟩

theorem Completes.ite {c : Prop} [Decidable c] {a b : Result} (ha : c → Completes i s a) (hb : ¬c → Completes i s b) :
    Completes i s (if c then a else b) := by
  split
  · exact ha ‹c›
  · exact hb ‹¬c›

theorem Completes.writes (r : Register) (v : Register.Value r) (n : Nat) (hd : i.destination = some r) :
    Completes i s (complete ((s.setRegister r v).spend n)) := ⟨_, rfl, .writes r v n hd⟩

theorem Completes.setFp {rd : FpIdx} {v : Fp} (hd : i.destination = some (.fp rd)) :
    Completes i s (complete (s.setFp rd v)) := .writes (.fp rd) v 0 hd

theorem Completes.setFp3 {rd : Idx} {v : CubicElt Fp} (hd : i.destination = some (.fp3 rd)) :
    Completes i s (complete (s.setFp3 rd v)) := .writes (.fp3 rd) v 0 hd

theorem Completes.setFp6 {rd : Idx} {v : SexticElt Fp} (hd : i.destination = some (.fp6 rd)) :
    Completes i s (complete (s.setFp6 rd v)) := .writes (.fp6 rd) v 0 hd

theorem Completes.setSc {rd : Idx} {v : Fp} (hd : i.destination = some (.sc rd)) :
    Completes i s (complete (s.setSc rd v)) := .writes (.sc rd) v 0 hd

theorem Completes.putFp {rd : FpIdx} {o : Option Fp} (hd : i.destination = some (.fp rd)) :
    Completes i s (complete (s.putFp rd o)) := by
  obtain ⟨v, n, h⟩ := putFp_eq s rd o
  rw [h]
  exact .writes (.fp rd) v n hd

theorem Completes.putFp3 {rd : Idx} {o : Option (CubicElt Fp)} (hd : i.destination = some (.fp3 rd)) :
    Completes i s (complete (s.putFp3 rd o)) := by
  obtain ⟨v, n, h⟩ := putFp3_eq s rd o
  rw [h]
  exact .writes (.fp3 rd) v n hd

theorem Completes.putFp6 {rd : Idx} {o : Option (SexticElt Fp)} (hd : i.destination = some (.fp6 rd)) :
    Completes i s (complete (s.putFp6 rd o)) := by
  obtain ⟨v, n, h⟩ := putFp6_eq s rd o
  rw [h]
  exact .writes (.fp6 rd) v n hd

/-- A point register of either group written, free values taken or not. -/
theorem Completes.writesPoint {g : CurveGroup} {rd : Idx} {v : Point Fp} (n : Nat)
    (hd : i.destination = some (pointRegister g rd)) : Completes i s (complete ((s.setPoint g rd v).spend n)) := by
  cases g with
  | g1 => exact .writes (.g1 rd) v n hd
  | g2 => exact .writes (.g2 rd) v n hd

theorem Completes.setPoint {g : CurveGroup} {rd : Idx} {v : Point Fp}
    (hd : i.destination = some (pointRegister g rd)) : Completes i s (complete (s.setPoint g rd v)) :=
  .writesPoint 0 hd

theorem Completes.putPoint {g : CurveGroup} {rd : Idx} {o : Option (Point Fp)}
    (hd : i.destination = some (pointRegister g rd)) : Completes i s (complete (s.putPoint g rd o)) := by
  obtain ⟨v, n, h⟩ := putPoint_eq s g rd o
  rw [h]
  exact .writesPoint _ hd

theorem Completes.putClass {g : CurveGroup} {rd : Idx} {o : Option (Point Nat)}
    (hd : i.destination = some (pointRegister g rd)) : Completes i s (complete (s.putClass g rd o)) := by
  obtain ⟨v, h⟩ := putClass_eq s g rd o
  rw [h]
  exact .writesPoint _ hd

theorem Completes.putB {o : Option Bool} (hb : i.writesB = true) : Completes i s (complete (s.putB o)) := by
  obtain ⟨b, n, h⟩ := putB_eq s o
  rw [h]
  exact ⟨_, rfl, .setsB b n hb⟩

theorem Completes.setB {b : Bool} (hb : i.writesB = true) : Completes i s (complete (s.setB b)) :=
  ⟨_, rfl, .setsB b 0 hb⟩

theorem Completes.fpLazy {ok : Bool} {exact' named : Nat} {rd : FpIdx} (hd : i.destination = some (.fp rd)) :
    Completes i s (fpLazy ok exact' named rd s) := by
  obtain ⟨v, h⟩ := fpLazy_next s ok exact' named rd
  exact ⟨_, h, .writes (.fp rd) v 1 hd⟩

theorem Completes.loadString {ok : Nat → Bool} {f : List Byte → Result} (hf : ∀ str, Completes i s (f str)) :
    Completes i s (loadString (encode i) ok s f) :=
  .ite (fun _ => .error) fun _ => .ite (fun _ => hf _) fun _ => .error

theorem Completes.storeString {bytes : List Byte} (hlen : bytes.length = i.storeWidth) :
    Completes i s (storeString (encode i) bytes s) := by
  rcases storeString_cases s (encode i) bytes with ⟨-, h⟩ | ⟨hr, h⟩
  · exact ⟨_, h, .error _⟩
  · exact ⟨_, h, .stores bytes 0 hlen (hlen ▸ hr)⟩

theorem Completes.pointLd {g : CurveGroup} {rd : Idx} (hd : i.destination = some (pointRegister g rd)) :
    Completes i s (pointLd (encode i) g rd s) := by
  rcases pointLd_cases s (encode i) g rd with ⟨e, h⟩ | ⟨v, h⟩
  · exact ⟨_, h, .error e⟩
  · rw [h]
    exact .setPoint hd

theorem Completes.pointSt {g : CurveGroup} {ra : Idx} (hw : i.storeWidth = 192) :
    Completes i s (pointSt (encode i) g ra s) := by
  rcases pointSt_cases s (encode i) g ra with ⟨-, h⟩ | ⟨hr, bytes, n, hlen, h⟩
  · exact ⟨_, h, .error _⟩
  · exact ⟨_, h, .stores bytes n (hlen.trans hw.symm) (hw ▸ hr)⟩

theorem Completes.pointGet {g : CurveGroup} {rd : FpIdx} {ra : Idx} {imm8 : BitVec 8}
    (hd : i.destination = some (.fp rd)) : Completes i s (pointGet (encode i) g rd ra imm8 s) := by
  unfold Machine.pointGet
  split
  · exact .setFp hd
  · exact .setFp hd
  · exact .setFp hd
  · exact .error

theorem Completes.pointMsm {g : CurveGroup} {rd ra rb : Idx} {imm8 : BitVec 8}
    (hd : i.destination = some (pointRegister g rd)) : Completes i s (pointMsm (encode i) g rd ra rb imm8 s) := by
  rcases pointMsm_cases s (encode i) g rd ra rb imm8 with ⟨-, h⟩ | ⟨-, v, h⟩
  · exact ⟨_, h, .error _⟩
  · rw [h]
    exact .writesPoint _ hd

/-- `FP.SQRT` writes its register and `FLAG.B` (R141). -/
theorem Completes.fpSqrt (rd ra : FpIdx) : Completes (.fpSqrt rd ra) s (execFpSqrt rd ra s) := by
  unfold execFpSqrt
  refine .ite (fun _ => ?_) fun _ => ⟨_, rfl, .writesAndSetsB (.fp rd) _ _ 2 rfl rfl⟩
  obtain ⟨v, n, h⟩ := putFp_eq s rd (inDomain
    (s.cfg.sq (s.cfg.pow (s.cfg.dec (s.getFp ra)) ((s.cfg.pMod + 1) / 4)) == s.cfg.dec (s.getFp ra))
    (s.cfg.enc (s.cfg.pow (s.cfg.dec (s.getFp ra)) ((s.cfg.pMod + 1) / 4))))
  simp only [h]
  exact ⟨_, rfl, .writesAndSetsB (.fp rd) v _ n rfl rfl⟩

end

/-! ### Queued entries are valid (R29, R310) -/

theorem valid_enc {c : Config} (h : c.Sized) (a : Nat) : valid c (c.enc a) = true := by
  rw [valid, decide_eq_true_eq, Config.enc_toNat h.pos h.lt_word.le]
  exact Nat.mod_lt _ h.pos

theorem valid_rawNeg {c : Config} (h : c.Sized) (x : Fp) : valid c (rawNeg c x) = true := by
  unfold rawNeg
  split
  · simpa [valid] using h.pos
  · next hne =>
    have hx0 : 0 < x.toNat := by simpa [Nat.pos_iff_ne_zero, ← BitVec.toNat_inj] using hne
    rw [valid, decide_eq_true_eq, BitVec.toNat_ofNat, Nat.mod_eq_of_lt ((Nat.sub_le ..).trans_lt h.lt_word)]
    exact Nat.sub_lt h.pos hx0

section
variable {i : Instr} {s : State}

theorem validPair_queuedPair {side : Fp → Fp} {ra rb : Idx} {k : Pair Fp} (h : s.cfg.Sized)
    (hside : ∀ x, valid s.cfg x = true → valid s.cfg (side x) = true) (hk : queuedPair s side ra rb = some k) :
    validPair s.cfg k = true := by
  unfold queuedPair inDomain at hk
  split at hk
  · obtain rfl := Option.some.inj hk
    simp [validPair, Point.map, valid_enc h, hside _ (valid_enc h _)]
  · cases hk

theorem Completes.queue {side : Fp → Fp} {ra rb : Idx} (hw : i.writesPairs = true)
    (hside : s.cfg.Sized → ∀ x, valid s.cfg x = true → valid s.cfg (side x) = true) :
    Completes i s (queue (encode i) side ra rb s) := by
  rcases queue_cases s (encode i) side ra rb with ⟨-, h⟩ | ⟨-, -, h⟩ | ⟨-, hroom, k, n, hk, h⟩
  · exact ⟨_, h, .counts⟩
  · exact ⟨_, h, .error _⟩
  · refine ⟨_, h, .queues k n hw hroom fun hsized => ?_⟩
    rcases hk with ⟨hk, -⟩ | ⟨-, rfl, -⟩
    · exact validPair_queuedPair hsized (hside hsized) hk
    · exact validPair_freePair s hsized

theorem Completes.pairResult (rd : Idx) : Completes (.pairResult rd) s (execPairResult rd s) := by
  obtain ⟨v, n, h⟩ := putFp6_eq s rd (s.pairingValue.map s.cfg.enc6)
  rw [execPairResult, h]
  exact ⟨_, rfl, .emptiesAndWrites (.fp6 rd) v n rfl rfl⟩

theorem Completes.pairCheck : Completes .pairCheck s (execPairCheck s) := by
  obtain ⟨b, n, h⟩ := putB_eq s (s.pairingValue.map (· == s.cfg.one6))
  rw [execPairCheck, h]
  exact ⟨_, rfl, .emptiesAndSetsB b n rfl rfl⟩

/-! ### The commands with a selector, and those that draw each component on its own -/

theorem Completes.fp3Get (rd : FpIdx) (ra : Idx) (imm8 : BitVec 8) :
    Completes (.fp3Get rd ra imm8) s (execFp3Get rd ra imm8 s) := by
  unfold execFp3Get
  split
  · exact .setFp rfl
  · exact .setFp rfl
  · exact .setFp rfl
  · exact .error

theorem Completes.fp6Get (rd ra : Idx) (imm8 : BitVec 8) :
    Completes (.fp6Get rd ra imm8) s (execFp6Get rd ra imm8 s) := by
  unfold execFp6Get
  split
  · exact .setFp3 rfl
  · exact .setFp3 rfl
  · exact .error

theorem Completes.fp3LAdd (rd ra rb : Idx) : Completes (.fp3LAdd rd ra rb) s (execFp3LAdd rd ra rb s) :=
  .ite (fun _ => .writes (.fp3 rd) _ 3 rfl) fun _ => .putFp3 rfl

theorem Completes.fp6LAdd (rd ra rb : Idx) : Completes (.fp6LAdd rd ra rb) s (execFp6LAdd rd ra rb s) :=
  .ite (fun _ => .writes (.fp6 rd) _ 6 rfl) fun _ => .putFp6 rfl

theorem Completes.pairMiller (rd : Idx) : Completes (.pairMiller rd) s (execPairMiller rd s) :=
  .ite (fun _ => .writes (.fp6 rd) _ 6 rfl) fun _ => .putFp6 rfl

end

/-! ### Every command completes -/

/-- What `exec` can do, said once: every command answers one of its effects from every state (R35). -/
theorem exec_completes (i : Instr) (s : State) : Completes i s (exec i s) := by
  cases i
  -- System commands
  case nop => exact .counts
  case setPtr a => exact ⟨_, rfl, .setsPtr a rfl⟩
  case setLen a => exact ⟨_, rfl, .setsLen a rfl⟩
  case clrErr => exact ⟨_, rfl, .clearsError rfl⟩
  -- Constants, moves and components: a register written
  case scLdi | scMov | fpToSc => exact .setSc (by rfl)
  case fpZero | fpOne | fpModulus | fpMov | fpFromSc => exact .setFp (by rfl)
  case fp3Zero | fp3One | fp3Mov | fp3Set => exact .setFp3 (by rfl)
  case fp6Zero | fp6One | fp6Mov | fp6Set => exact .setFp6 (by rfl)
  case g1Zero | g1Gen | g1Mov | g1Set | g2Zero | g2Gen | g2Mov | g2Set => exact .setPoint (by rfl)
  case fp3Get rd ra imm8 => exact .fp3Get rd ra imm8
  case fp6Get rd ra imm8 => exact .fp6Get rd ra imm8
  case g1Get | g2Get => exact .pointGet (by rfl)
  -- Loads and stores
  case scLd =>
    unfold exec
    exact .loadString fun _ => .setSc rfl
  case fpLd =>
    unfold exec
    exact .loadString fun _ => .putFp rfl
  case fp3Ld =>
    unfold exec
    exact .loadString fun _ => .setFp3 rfl
  case fp6Ld =>
    unfold exec
    exact .loadString fun _ => .setFp6 rfl
  case g1Ld | g2Ld => exact .pointLd (by rfl)
  case scSt | fpSt | fp3St | fp6St =>
    unfold exec
    exact .storeString (by simp [Instr.storeWidth])
  case g1St | g2St => exact .pointSt (by rfl)
  -- Arithmetic of the tower: a register written, drawn out of domain
  case fpToMont | fpFromMont | fpAdd | fpSub | fpDouble | fpNeg | fpMul | fpSquare | fpInv | fpExp | fpMulNr =>
    exact .putFp (by rfl)
  case fp3Add | fp3Sub | fp3Double | fp3Neg | fp3Mul | fp3Square | fp3Inv | fp3Exp | fp3Frob | fp3Mul0 =>
    exact .putFp3 (by rfl)
  case fp6Add | fp6Sub | fp6Double | fp6Neg | fp6Mul | fp6Square | fp6CycSq | fp6Inv | fp6Exp | fp6Conj | fp6Frob |
      fp6Mul014 | fp6Mul034 | fexp | fexpEasy | fexpHard =>
    exact .putFp6 (by rfl)
  case fpLAdd | fpLDouble | fpLSub => exact .fpLazy (by rfl)
  case fp3LAdd rd ra rb => exact .fp3LAdd rd ra rb
  case fp6LAdd rd ra rb => exact .fp6LAdd rd ra rb
  case fpSqrt rd ra => exact .fpSqrt rd ra
  -- Arithmetic of the groups
  case g1Add | g1Double | g1Sub | g1MulSc | g1ClrCof | g2Add | g2Double | g2Sub | g2MulSc | g2ClrCof =>
    exact .putClass (by rfl)
  case g1Neg | g1Affine | g2Neg | g2Affine => exact .putPoint (by rfl)
  case g1Msm | g2Msm => exact .pointMsm (by rfl)
  -- Comparison and predicates
  case fpCmp ra rb => exact ⟨_, rfl, .setsCmp _ rfl (threeWay_ne _ _)⟩
  case fpEq | fpIsZero | fpIsOne | fpIsOdd | fpIsEven | fpIsValid | fp3Eq | fp3IsZero | fp3IsOne | fp6Eq |
      fp6IsZero | fp6IsOne | g1IsAffine | g1IsInf | g2IsAffine | g2IsInf =>
    exact .setB (by rfl)
  case fpIsQnr | fp6IsValid | g1IsOnCurve | g1Eq | g2IsOnCurve | g2Eq | g2InSub => exact .putB (by rfl)
  -- Pairing
  case pairAdd => exact .queue (by rfl) fun _ _ hx => hx
  case pairAddInv => exact .queue (by rfl) fun h x _ => valid_rawNeg h x
  case pairReset => exact ⟨_, rfl, .empties rfl⟩
  case pairResult rd => exact .pairResult rd
  case pairCheck => exact .pairCheck
  case pairMiller rd => exact .pairMiller rd

/-- The inversion of `exec`: the state it answers is an effect of the command. -/
theorem effect_of_exec {i : Instr} {s t : State} (h : exec i s = .next t) : Effect i s t := by
  obtain ⟨u, hu, he⟩ := exec_completes i s
  obtain rfl : u = t := Host.Outcome.next.inj (hu.symm.trans h)
  exact he

end Sys2Proof.Machine
end

section
/-! The frames of the commands: which field of the state each effect can write, and the statements about it. -/
namespace Sys2Proof.Machine

section
variable {i : Instr} {s t : State}

/-! ### Completion (R35) -/

theorem Effect.cmdcnt_eq (h : Effect i s t) : t.cmdcnt = s.cmdcnt + 1 := by
  cases h <;> simp

/-- Settles O12: every command has an effect, and every effect counts; so does the error entry of an illegal word. -/
theorem commandsCompleteAndCount : Obligations.CommandsCompleteAndCount := by
  unfold Obligations.CommandsCompleteAndCount
  have hexec (i : Instr) (s : State) :
      ∃ t, exec i s = .next t ∧ t.cmdcnt.toNat = (s.cmdcnt.toNat + 1) % 2 ^ 64 := by
    obtain ⟨t, ht, he⟩ := exec_completes i s
    exact ⟨t, ht, by simp [he.cmdcnt_eq]⟩
  refine ⟨hexec, fun w s => ?_⟩
  unfold execWord
  split
  · exact hexec _ s
  · exact ⟨_, raise_eq .., by simp⟩

/-! ### `DPTR` and `DLEN` (R34) -/

theorem Effect.dptr_eq (h : Effect i s t) (hi : ∀ a, i ≠ .setPtr a) : t.dptr = s.dptr := by
  cases h with
  | setsPtr a e => exact absurd e (hi a)
  | _ => simp

theorem Effect.dlen_eq (h : Effect i s t) (hi : ∀ n, i ≠ .setLen n) : t.dlen = s.dlen := by
  cases h with
  | setsLen n e => exact absurd e (hi n)
  | _ => simp

/-- Settles O16: SETPTR and SETLEN are the only effects on the two pointers. -/
theorem pointerFrame : Obligations.PointerFrame := by
  unfold Obligations.PointerFrame
  exact fun i s t h => ⟨(effect_of_exec h).dptr_eq, (effect_of_exec h).dlen_eq⟩

/-! ### The pair list (R29) -/

theorem Effect.pairs_eq (h : Effect i s t) (hi : i.writesPairs = false) : t.pairs = s.pairs := by
  cases h with
  | queues _ _ hw | empties hw | emptiesAndWrites _ _ _ hw | emptiesAndSetsB _ _ hw => simp [hi] at hw
  | _ => simp

theorem Effect.pairs_cases (h : Effect i s t) : t.pairs = s.pairs ∨ t.pairs = [] ∨ ∃ k, t.pairs = s.pairs ++ [k] := by
  cases h with
  | queues k => exact .inr (.inr ⟨k, rfl⟩)
  | empties | emptiesAndWrites | emptiesAndSetsB => exact .inr (.inl rfl)
  | _ => exact .inl (by simp)

/-- Settles O17: the effects on the pair list are those of the five list commands. -/
theorem pairListFrame : Obligations.PairListFrame := by
  unfold Obligations.PairListFrame
  exact fun i s t h => ⟨(effect_of_exec h).pairs_eq, (effect_of_exec h).pairs_cases⟩

/-! ### `FLAG` (R33) -/

theorem Effect.flagB_eq (h : Effect i s t) (hi : i.writesB = false) : flagB t.flag = flagB s.flag := by
  cases h with
  | setsB _ _ hw | writesAndSetsB _ _ _ _ _ hw | emptiesAndSetsB _ _ _ hw => simp [hi] at hw
  | _ => simp

theorem Effect.flagCmp_eq (h : Effect i s t) (hi : i.writesCmp = false) : flagCmp t.flag = flagCmp s.flag := by
  cases h with
  | setsCmp _ hw => simp [hi] at hw
  | _ => simp

theorem Effect.flagCmp_ne (h : Effect i s t) (hs : flagCmp s.flag ≠ 0b10) : flagCmp t.flag ≠ 0b10 := by
  cases h with
  | setsCmp _ _ hne => simpa using hne
  | _ => simpa using hs

/-- Settles O18: each field of FLAG has its own effects, and FP.CMP writes a three-way result. -/
theorem flagFrame : Obligations.FlagFrame := by
  unfold Obligations.FlagFrame
  exact fun i s t h => ⟨(effect_of_exec h).flagB_eq, (effect_of_exec h).flagCmp_eq, (effect_of_exec h).flagCmp_ne⟩

/-! ### The registers (R28, R90) -/

theorem Effect.getRegister_eq (h : Effect i s t) (q : Register) (hq : i.destination ≠ some q) :
    t.getRegister q = s.getRegister q := by
  have written {r : Register} (v : Register.Value r) (hd : i.destination = some r) :
      (s.setRegister r v).getRegister q = s.getRegister q :=
    s.getRegister_setRegister_of_ne r v fun e => hq (hd.trans (congrArg some e))
  cases h with
  | writes r v n hd | writesAndSetsB r v _ n hd | emptiesAndWrites r v n _ hd =>
    rw [← written v hd]
    cases q <;> rfl
  | _ => cases q <;> rfl

theorem Effect.host_eq (h : Effect i s t) : t.host = s.host := by
  cases h <;> simp

theorem Effect.cfg_eq (h : Effect i s t) : t.cfg = s.cfg := by
  cases h <;> simp

/-- Settles O20: an effect writes no register but the destination. -/
theorem registerFrame : Obligations.RegisterFrame := by
  unfold Obligations.RegisterFrame
  intro i s t h
  have he := effect_of_exec h
  exact ⟨fun k => he.getRegister_eq (.fp k), fun k => he.getRegister_eq (.fp3 k), fun k => he.getRegister_eq (.fp6 k),
    fun k => he.getRegister_eq (.g1 k), fun k => he.getRegister_eq (.g2 k), fun k => he.getRegister_eq (.sc k),
    he.host_eq, he.cfg_eq⟩

end
end Sys2Proof.Machine
end

section
/-! The invariant: each update of the state keeps it, so every effect does, so every step does. -/
namespace Sys2Proof.Machine

/-! ### One step, by the host's next action (R80, R347, R350) -/

section
variable {s : State} {rest : List HostAction}

theorem step_waiting (h : s.host = []) : step s = .next s := by
  rw [step, h]

theorem step_command {w : Word} (h : s.host = .command w :: rest) : step s = execWord w { s with host := rest } := by
  rw [step, h]

theorem step_write {a : Nat} {b : Byte} (h : s.host = .write a b :: rest) (ha : a < s.cfg.dmemSize) :
    step s = .next { s with host := rest, dmem := writeByte s.dmem a b } := by
  rw [step, h]
  exact if_pos ha

theorem step_writeOutside {a : Nat} {b : Byte} (h : s.host = .write a b :: rest) (ha : s.cfg.dmemSize ≤ a) :
    step s = .fault .hostWriteOutsideDmem := by
  rw [step, h]
  exact if_neg (Nat.not_lt.mpr ha)

theorem step_reset (h : s.host = .reset :: rest) : step s = .next (resetCore { s with host := rest }) := by
  rw [step, h]

end

/-- Settles O6: the equations of a step for each of the host's other moves. -/
theorem hostMoves : Obligations.HostMoves := by
  unfold Obligations.HostMoves
  refine ⟨fun s h => step_waiting h, fun s a b rest h => ⟨fun ha => ?_, fun ha => step_writeOutside h ha⟩,
    fun s rest h => ?_⟩
  · exact ⟨_, step_write h ha, fun x => readByte_writeByte s.dmem a x b⟩
  · exact ⟨_, step_reset h, rfl, rfl, rfl, rfl, rfl, rfl, rfl, rfl, rfl, rfl, rfl⟩

/-! ### Each update keeps the invariant -/

namespace State.Inv

variable {s : State}

/-- An update of what the invariant does not speak of keeps it. -/
theorem congr {t : State} (h : s.Inv) (hcfg : t.cfg = s.cfg) (hdmem : t.dmem = s.dmem) (hpairs : t.pairs = s.pairs)
    (herr : t.err = s.err) (herrcmd : t.errcmd = s.errcmd) (herridx : t.erridx = s.erridx) (hflag : t.flag = s.flag) :
    t.Inv := by
  obtain ⟨hsized, hcanonical, hinside, hfits, hvalid, hcode, hclear, hcmp⟩ := h
  constructor <;> simpa only [hcfg, hdmem, hpairs, herr, herrcmd, herridx, hflag]

theorem counted (h : s.Inv) : s.counted.Inv := h.congr rfl rfl rfl rfl rfl rfl rfl

theorem spend (h : s.Inv) (n : Nat) : (s.spend n).Inv := h.congr rfl rfl rfl rfl rfl rfl rfl

theorem setRegister (h : s.Inv) (r : Register) (v : Register.Value r) : (s.setRegister r v).Inv := by
  apply h.congr <;> simp

theorem setB (h : s.Inv) (b : Bool) : (s.setB b).Inv :=
  { h with cmpLegal := by simpa using h.cmpLegal }

theorem setCmp (h : s.Inv) {cmp : BitVec 2} (hne : cmp ≠ 0b10) : (s.setCmp cmp).Inv :=
  { h with cmpLegal := by simpa using hne }

theorem errorEntry (h : s.Inv) (e : CoreError) (w : Word) : (Machine.errorEntry e w s).Inv where
  sized := h.sized
  canonical := h.canonical
  inside := h.inside
  fits := h.fits
  entriesValid := h.entriesValid
  cmpLegal := h.cmpLegal
  legalCode := by
    simp only [Machine.errorEntry]
    split
    · cases e <;> decide
    · exact h.legalCode
  clearTogether := by
    simp only [Machine.errorEntry]
    split
    · exact fun he => absurd he (errorCode_ne_zero e)
    · exact h.clearTogether

theorem clearError (h : s.Inv) : (Machine.clearError s).Inv :=
  { h with legalCode := Nat.zero_le 5, clearTogether := fun _ => ⟨rfl, rfl⟩ }

/-- A string inside the buffer stored. -/
theorem memWrite (h : s.Inv) {addr : Nat} {bytes : List Byte} (hr : addr + bytes.length ≤ s.cfg.dmemSize) :
    State.Inv { s with dmem := Machine.memWrite s.dmem addr bytes } :=
  { h with canonical := memWrite_wf bytes addr h.canonical, inside := memWrite_within bytes h.inside hr }

theorem writeByte (h : s.Inv) {a : Nat} (ha : a < s.cfg.dmemSize) (b : Byte) :
    State.Inv { s with dmem := Machine.writeByte s.dmem a b } :=
  { h with canonical := writeByte_wf h.canonical a b, inside := writeByte_within h.inside ha b }

/-- A valid entry appended where there is room. -/
theorem append (h : s.Inv) {k : Pair Fp} (hroom : s.pairs.length ≠ s.cfg.maxPairs) (hk : validPair s.cfg k = true) :
    State.Inv { s with pairs := s.pairs ++ [k] } :=
  { h with
    fits := by
      rw [List.length_append, List.length_singleton]
      exact Nat.lt_of_le_of_ne h.fits hroom
    entriesValid := fun e he => by
      rcases List.mem_append.mp he with he | he
      · exact h.entriesValid e he
      · exact List.mem_singleton.mp he ▸ hk }

theorem empty (h : s.Inv) : State.Inv { s with pairs := [] } :=
  { h with fits := Nat.zero_le _, entriesValid := fun _ he => absurd he List.not_mem_nil }

/-- The state after reset, under any parameters that are sized. -/
theorem resetCore (t : State) (h : t.cfg.Sized) : (Machine.resetCore t).Inv where
  sized := h
  canonical := ⟨List.Pairwise.nil, fun _ hc => absurd hc List.not_mem_nil⟩
  inside := fun _ hc => absurd hc List.not_mem_nil
  fits := Nat.zero_le _
  entriesValid := fun _ he => absurd he List.not_mem_nil
  legalCode := Nat.zero_le 5
  clearTogether := fun _ => ⟨rfl, rfl⟩
  cmpLegal := show flagCmp 0 ≠ 0b10 by decide

end State.Inv

/-! ### Every step keeps the invariant -/

section
variable {i : Instr} {s t : State}

theorem Effect.inv (h : Effect i s t) (hs : s.Inv) : t.Inv := by
  cases h with
  | counts => exact hs.counted
  | error e => exact hs.errorEntry e _
  | clearsError => exact hs.clearError.counted
  | setsPtr | setsLen => exact hs.congr rfl rfl rfl rfl rfl rfl rfl
  | writes r v n => exact ((hs.setRegister r v).spend n).counted
  | setsB b n => exact ((hs.setB b).spend n).counted
  | writesAndSetsB r v b n => exact (((hs.setRegister r v).setB b).spend n).counted
  | setsCmp cmp _ hne => exact (hs.setCmp hne).counted
  | stores bytes n hlen hr => exact ((hs.memWrite (hlen ▸ hr)).spend n).counted
  | queues k n _ hroom hk => exact ((hs.append hroom (hk hs.sized)).spend n).counted
  | empties => exact hs.empty.counted
  | emptiesAndWrites r v n => exact ((hs.setRegister r v).spend n).empty.counted
  | emptiesAndSetsB b n => exact ((hs.setB b).spend n).empty.counted

theorem execWord_inv {w : Word} (hs : s.Inv) (h : execWord w s = .next t) : t.Inv := by
  unfold execWord at h
  split at h
  · exact (effect_of_exec h).inv hs
  · rw [raise_eq] at h
    obtain rfl := Host.Outcome.next.inj h
    exact hs.errorEntry _ w

end

/-- Settles O9: by the host's next action, a command by its effect. -/
theorem stepKeepsInvariant : Obligations.StepKeepsInvariant := by
  unfold Obligations.StepKeepsInvariant
  intro s t hs h
  have htaken (rest : List HostAction) : State.Inv { s with host := rest } := hs.congr rfl rfl rfl rfl rfl rfl rfl
  match hhost : s.host with
  | [] =>
    rw [step_waiting hhost] at h
    exact Host.Outcome.next.inj h ▸ hs
  | .command w :: rest =>
    rw [step_command hhost] at h
    exact execWord_inv (htaken rest) h
  | .write a b :: rest =>
    rcases Nat.lt_or_ge a s.cfg.dmemSize with ha | ha
    · rw [step_write hhost ha] at h
      exact Host.Outcome.next.inj h ▸ (htaken rest).writeByte ha b
    · rw [step_writeOutside hhost ha] at h
      cases h
  | .reset :: rest =>
    rw [step_reset hhost] at h
    exact Host.Outcome.next.inj h ▸ .resetCore _ hs.sized

/-! ### At reset, and what the invariant is for -/

theorem sized_published : Config.published.Sized := by constructor <;> decide +kernel

/-- Settles O8: a reset leaves the state after reset as it is. -/
theorem invariantAtReset : Obligations.InvariantAtReset := by
  unfold Obligations.InvariantAtReset
  exact .resetCore State.reset sized_published

/-- Settles O10: the invariant bounds the list by a capacity that 8 bits can count. -/
theorem npairsIsListLength : Obligations.NpairsIsListLength := by
  unfold Obligations.NpairsIsListLength
  intro s hs
  have hlength : s.pairs.length < 2 ^ 8 := Nat.lt_succ_of_le (hs.fits.trans hs.sized.list)
  rw [State.npairs, BitVec.toNat_ofNat, Nat.mod_eq_of_lt hlength]

end Sys2Proof.Machine
end

section
/-! The data buffer: a byte string read and read after a write (R52, R53), and what a command can do to the buffer
(R51). -/
namespace Sys2Proof.Machine

theorem memRead_getElem? (m : Memory) (addr : Nat) {n k : Nat} (hk : k < n) :
    (memRead m addr n)[k]? = some (readByte m (addr + k)) := by
  simp [memRead, hk]

/-- Settles O22: by the laws of a byte string read and of a byte after a string is written. -/
theorem bufferAccess : Obligations.BufferAccess := by
  unfold Obligations.BufferAccess
  exact ⟨fun m addr n => ⟨memRead_length m addr n, fun _ => memRead_getElem? m addr⟩,
    fun m addr str a => readByte_memWrite str m addr a⟩

/-- A string written reads back. -/
theorem memRead_memWrite (m : Memory) (addr : Nat) (str : List Byte) :
    memRead (memWrite m addr str) addr str.length = str := by
  refine List.ext_getElem (memRead_length ..) fun k _ hk => ?_
  rw [List.getElem_eq_iff, memRead_getElem? _ _ hk, readByte_memWrite, if_pos (by omega), Nat.add_sub_cancel_left,
    List.getD_eq_getElem _ _ hk]

section
variable {i : Instr} {s t : State}

/-- The buffer after a command: as before, or with a string of the command's width written at `DPTR`. -/
theorem Effect.dmem_cases (h : Effect i s t) : t.dmem = s.dmem ∨
    ∃ bytes : List Byte, bytes.length = i.storeWidth ∧ t.dmem = memWrite s.dmem s.dptr.toNat bytes := by
  cases h with
  | stores bytes _ hlen => exact .inr ⟨bytes, hlen, rfl⟩
  | _ => exact .inl (by simp)

theorem Effect.dmem_eq (h : Effect i s t) (hi : i.storeWidth = 0) : t.dmem = s.dmem := by
  rcases h.dmem_cases with h | ⟨bytes, hlen, h⟩
  · exact h
  · rw [h, List.eq_nil_of_length_eq_zero (hlen.trans hi), memWrite]

theorem Effect.readByte_eq (h : Effect i s t) {a : Nat}
    (ha : a < s.dptr.toNat ∨ s.dptr.toNat + i.storeWidth ≤ a) : readByte t.dmem a = readByte s.dmem a := by
  rcases h.dmem_cases with h | ⟨bytes, hlen, h⟩
  · rw [h]
  · rw [h, readByte_memWrite, hlen, if_neg (by omega)]

end

/-- Settles O19: only a store has an effect on the buffer, and it writes its own width. -/
theorem bufferFrame : Obligations.BufferFrame := by
  unfold Obligations.BufferFrame
  exact fun i s t h => ⟨(effect_of_exec h).dmem_eq, fun _ => (effect_of_exec h).readByte_eq⟩

end Sys2Proof.Machine
end

section
/-! The byte encodings decode: the raw values of the tower, for any register contents (R61 to R64), and a load after a
store of as many bytes (R54). -/
namespace Sys2Proof.Machine

/-! ### Encode, then decode -/

theorem be_concat (str : List Byte) (b : Byte) : be (str ++ [b]) = be str * 256 + b.toNat := by
  simp [be]

/-- The big-endian form of an integer that fits has its value (R18). -/
theorem be_bytesOf {n v : Nat} (hv : v < 256 ^ n) : be (bytesOf n v) = v := by
  induction n generalizing v with
  | zero => exact (Nat.lt_one_iff.mp hv).symm
  | succ n ih =>
    rw [bytesOf, be_concat, ih (Nat.div_lt_of_lt_mul (by rwa [pow_succ'] at hv)), BitVec.toNat_ofNat]
    exact Nat.div_add_mod' v 256

theorem be_fpBytes (x : Fp) : be (fpBytes x) = x.toNat :=
  be_bytesOf (x.isLt.trans_le (by decide +kernel))

/-- A component of a string of Fp values, 0 beyond its end (R61). -/
theorem fpAt_flatMap (xs : List Fp) (i : Nat) : fpAt (xs.flatMap fpBytes) i = xs.getD i 0 := by
  induction xs generalizing i with
  | nil => simp [fpAt, be]
  | cons x xs ih =>
    rw [List.flatMap_cons]
    cases i with
    | zero =>
      rw [fpAt, Nat.mul_zero, List.drop_zero, List.take_left' (fpBytes_length x), be_fpBytes, BitVec.ofNat_toNat,
        BitVec.setWidth_eq, List.getD_cons_zero]
    | succ i =>
      rw [List.getD_cons_succ, ← ih, fpAt, fpAt, Nat.mul_succ, Nat.add_comm, ← List.drop_drop,
        List.drop_left' (fpBytes_length x)]

theorem cubicBytes_eq (a : CubicElt Fp) : cubicBytes a = [a.c0, a.c1, a.c2].flatMap fpBytes := by
  simp [cubicBytes]

theorem sexticBytes_eq (a : SexticElt Fp) : sexticBytes a = (components a).flatMap fpBytes := by
  simp [sexticBytes, cubicBytes_eq, components]

theorem cubicAt_cubicBytes (a : CubicElt Fp) : cubicAt (cubicBytes a) 0 = a := by
  simp only [cubicAt, cubicBytes_eq, fpAt_flatMap]
  rfl

theorem sexticAt_sexticBytes (a : SexticElt Fp) : sexticAt (sexticBytes a) = a := by
  simp only [sexticAt, cubicAt, sexticBytes_eq, fpAt_flatMap]
  rfl

/-! ### Store, then load -/

section
variable {s t u : State} {w w' : Word} {bytes : List Byte}

theorem eq_counted_of_complete (h : complete s = .next t) : t = s.counted := (Host.Outcome.next.inj h).symm

/-- The state after a store that is in range. -/
theorem storeString_inRange (hr : s.dptr.toNat + bytes.length ≤ s.cfg.dmemSize)
    (h : storeString w bytes s = .next t) :
    t = { s with dmem := memWrite s.dmem s.dptr.toNat bytes, cmdcnt := s.cmdcnt + 1 } := by
  rcases storeString_cases s w bytes with ⟨hout, -⟩ | ⟨-, hn⟩
  · exact absurd hout (Nat.not_lt.mpr hr)
  · exact (Host.Outcome.next.inj (hn.symm.trans h)).symm

/-- A load after a store of as many bytes decodes the bytes stored. -/
theorem loadString_storeString {n : Nat} (hn : bytes.length = n) (hr : s.dptr.toNat + n ≤ s.cfg.dmemSize)
    (hlen : s.dlen.toNat = n) {ok : Nat → Bool} (hok : ok n = true) {f : List Byte → Result}
    (hst : storeString w bytes s = .next t) (hld : loadString w' ok t f = .next u) : f bytes = .next u := by
  subst hn
  obtain rfl := storeString_inRange hr hst
  simpa only [loadString, hlen, memRead_memWrite, hok, if_true, if_neg (Nat.not_lt.mpr hr)] using hld

theorem getSc_scLd_scSt {ra rd : Idx} (hr : s.dptr.toNat + 96 ≤ s.cfg.dmemSize) (hlen : s.dlen = 96)
    (hst : exec (.scSt ra) s = .next t) (hld : exec (.scLd rd) t = .next u) : u.getSc rd = s.getSc ra := by
  simp only [exec, execScSt, execScLd] at hst hld
  have h := loadString_storeString (fpBytes_length _) hr (by rw [hlen]; rfl) rfl hst hld
  rw [eq_counted_of_complete h]
  simp [State.getSc_setSc, be_fpBytes]

theorem getFp_fpLd_fpSt {ra rd : FpIdx} (hr : s.dptr.toNat + 96 ≤ s.cfg.dmemSize) (hlen : s.dlen = 96)
    (hst : exec (.fpSt ra) s = .next t) (hld : exec (.fpLd rd) t = .next u) : u.getFp rd = s.getFp ra := by
  simp only [exec, execFpSt, execFpLd] at hst hld
  have h := loadString_storeString (fpBytes_length _) hr (by rw [hlen]; rfl) rfl hst hld
  rw [eq_counted_of_complete h]
  simp [State.getFp_setFp, be_fpBytes, State.putFp]

theorem getFp3_fp3Ld_fp3St {ra rd : Idx} (hr : s.dptr.toNat + 288 ≤ s.cfg.dmemSize) (hlen : s.dlen = 288)
    (hst : exec (.fp3St ra) s = .next t) (hld : exec (.fp3Ld rd) t = .next u) : u.getFp3 rd = s.getFp3 ra := by
  simp only [exec, execFp3St, execFp3Ld] at hst hld
  have h := loadString_storeString (cubicBytes_length _) hr (by rw [hlen]; rfl) rfl hst hld
  rw [eq_counted_of_complete h]
  simp [State.getFp3_setFp3, cubicAt_cubicBytes]

theorem getFp6_fp6Ld_fp6St {ra rd : Idx} (hr : s.dptr.toNat + 576 ≤ s.cfg.dmemSize) (hlen : s.dlen = 576)
    (hst : exec (.fp6St ra) s = .next t) (hld : exec (.fp6Ld rd) t = .next u) : u.getFp6 rd = s.getFp6 ra := by
  simp only [exec, execFp6St, execFp6Ld] at hst hld
  have h := loadString_storeString (sexticBytes_length _) hr (by rw [hlen]; rfl) rfl hst hld
  rw [eq_counted_of_complete h]
  simp [State.getFp6_setFp6, sexticAt_sexticBytes]

end
end Sys2Proof.Machine
end

section
/-! A point in the domain survives its byte encoding (R65): its affine coordinates satisfy the curve equation in
Montgomery form, so their bytes decode to a triple of the same denotation. -/
namespace Sys2Proof

namespace Config

section
variable {c : Config}

/-! ### Montgomery form under a legal modulus -/

theorem dec_zero (c : Config) : c.dec 0 = 0 := by simp [dec]

theorem FieldLegal.lt_word (h : c.FieldLegal) : c.pMod < 2 ^ 768 := h.high.trans (by decide +kernel)

/-- Both functions read nothing of the parameters but the modulus, so the sizes of the buffer and the list are free. -/
theorem FieldLegal.dec_enc (h : c.FieldLegal) {a : Nat} (ha : a < c.pMod) : c.dec (c.enc a) = a :=
  have hsized : Config.Sized { c with dmemSize := 0, maxPairs := 0 } :=
    FieldLegal.sized ⟨h.prime, h.low, h.high, h.mod12, h.nonCube⟩ (Nat.zero_le _) (Nat.zero_le _)
  Config.dec_enc hsized ha

theorem FieldLegal.enc_toNat (h : c.FieldLegal) (a : Nat) : (c.enc a).toNat = a * 2 ^ 768 % c.pMod :=
  Config.enc_toNat h.prime.pos h.lt_word.le a

theorem FieldLegal.enc_lt (h : c.FieldLegal) (a : Nat) : (c.enc a).toNat < c.pMod :=
  h.enc_toNat a ▸ Nat.mod_lt _ h.prime.pos

theorem FieldLegal.cast_enc (h : c.FieldLegal) (a : Nat) : ((c.enc a).toNat : ZMod c.pMod) = a * (2 ^ 768 : Nat) := by
  rw [h.enc_toNat, ZMod.natCast_mod, Nat.cast_mul]

theorem FieldLegal.cast_rInv (h : c.FieldLegal) : (c.rInv * (2 ^ 768 : Nat) : ZMod c.pMod) = 1 := by
  have hodd : c.pMod % 2 = 1 := by have := h.mod12; omega
  rw [← Nat.cast_mul, ← ZMod.natCast_mod, rInv_mul hodd h.prime.one_lt, Nat.cast_one]

/-- The Montgomery product of two Montgomery forms is that of the product (R112). -/
theorem FieldLegal.mont_enc (h : c.FieldLegal) (a b : Nat) :
    c.mont (c.enc a).toNat (c.enc b).toNat = (c.enc (c.mul a b)).toNat := by
  refine eq_of_cast_eq (Nat.mod_lt _ h.prime.pos) (h.enc_lt _) ?_
  rw [mont, ZMod.natCast_mod, Nat.cast_mul, Nat.cast_mul, h.cast_enc, h.cast_enc, h.cast_enc, cast_mul]
  linear_combination (a * b * (2 ^ 768 : Nat) : ZMod c.pMod) * h.cast_rInv

/-! ### The affine point of a triple -/

theorem denote_eq_some {t : Point Nat} {a : Affine Nat} : c.denote t = some a ↔
    t.z ≠ 0 ∧ a = ⟨c.mul t.x (c.sq (c.inv t.z)), c.mul t.y (c.mul (c.inv t.z) (c.sq (c.inv t.z)))⟩ := by
  unfold denote
  split <;> simp_all [eq_comm]

theorem denote_lt (h : 0 < c.pMod) {t : Point Nat} {a : Affine Nat} (ha : c.denote t = some a) :
    a.x < c.pMod ∧ a.y < c.pMod := by
  obtain ⟨-, rfl⟩ := denote_eq_some.mp ha
  exact ⟨mul_lt h _ _, mul_lt h _ _⟩

/-- The affine point of a triple on the curve satisfies the affine equation (R220, R228). -/
theorem denote_onCurve (hp : c.pMod.Prime) {b : Nat} {t : Point Nat} {a : Affine Nat} (hz : t.z < c.pMod)
    (ht : c.onCurve b t = true) (ha : c.denote t = some a) : (a.y * a.y : ZMod c.pMod) = a.x * a.x * a.x + b := by
  have := Fact.mk hp
  obtain ⟨hz0, rfl⟩ := denote_eq_some.mp ha
  have hzne : (t.z : ZMod c.pMod) ≠ 0 := fun e => hz0 (eq_of_cast_eq hz hp.pos (by rw [e, Nat.cast_zero]))
  have heq : c.sq t.y = c.add (c.mul t.x (c.sq t.x)) (c.mul b (c.pow t.z 6)) := by simpa [onCurve, hz0] using ht
  have hcast : (t.y * t.y : ZMod c.pMod) = t.x * (t.x * t.x) + b * t.z ^ 6 := by
    simpa using congrArg (Nat.cast : Nat → ZMod c.pMod) heq
  simp only [cast_mul, cast_sq, cast_inv hp hzne]
  field_simp
  linear_combination hcast

/-- A triple with z one denotes its first two components (R226). -/
theorem denote_affineTriple (h : c.FieldLegal) {a : Affine Nat} (hx : a.x < c.pMod) (hy : a.y < c.pMod) :
    c.denote (Point.map c.dec ⟨c.enc a.x, c.enc a.y, c.one⟩) = some a := by
  have hinv : c.inv 1 = 1 := by rw [inv, pow_eq, one_pow, Nat.mod_eq_of_lt h.prime.one_lt]
  rw [Point.map, one, h.dec_enc hx, h.dec_enc hy, h.dec_enc h.prime.one_lt, denote_eq_some]
  simp [hinv, sq, mul, Nat.mod_eq_of_lt, h.prime.one_lt, hx, hy]

end
end Config

namespace Machine

section
variable {c : Config} {b : Nat}

theorem be_eq_zero {str : List Byte} (h : str.all (· == 0) = true) : be str = 0 := by
  induction str using List.reverseRecOn with
  | nil => rfl
  | append_singleton str x ih =>
    rw [List.all_append, Bool.and_eq_true] at h
    have hx : x = 0 := by simpa using h.2
    rw [be_concat, ih h.1, hx]
    rfl

/-- The bytes of the coordinates of a finite point of the curve decode to these coordinates (R65). -/
theorem pointOfBytes_affine (h : c.FieldLegal) {a : Affine Nat} (hx : a.x < c.pMod) (hy : a.y < c.pMod)
    (hne : a.x ≠ 0 ∨ a.y ≠ 0) (hcurve : (a.y * a.y : ZMod c.pMod) = a.x * a.x * a.x + b) :
    pointOfBytes c b (fpBytes (c.enc a.x) ++ fpBytes (c.enc a.y)) = some ⟨c.enc a.x, c.enc a.y, c.one⟩ := by
  have hat (i : Nat) : fpAt (fpBytes (c.enc a.x) ++ fpBytes (c.enc a.y)) i = [c.enc a.x, c.enc a.y].getD i 0 := by
    rw [← fpAt_flatMap, List.flatMap_cons, List.flatMap_singleton]
  have hzero {v : Nat} (hv : v < c.pMod) (hb : (fpBytes (c.enc v)).all (· == 0) = true) : v = 0 := by
    rw [← h.dec_enc hv, Config.dec, ← be_fpBytes, be_eq_zero hb, Nat.zero_mul, Nat.zero_mod]
  have hbytes : (fpBytes (c.enc a.x) ++ fpBytes (c.enc a.y)).all (· == 0) ≠ true := by
    rw [List.all_append, Ne, Bool.and_eq_true]
    exact fun ⟨h1, h2⟩ => hne.elim (fun hn => hn (hzero hx h1)) fun hn => hn (hzero hy h2)
  have hmont : c.mont (c.enc a.y).toNat (c.enc a.y).toNat =
      (c.mont (c.mont (c.enc a.x).toNat (c.enc a.x).toNat) (c.enc a.x).toNat + (c.enc b).toNat) % c.pMod := by
    rw [h.mont_enc, h.mont_enc, h.mont_enc]
    refine Config.eq_of_cast_eq (h.enc_lt _) (Nat.mod_lt _ h.prime.pos) ?_
    rw [ZMod.natCast_mod, Nat.cast_add, h.cast_enc, h.cast_enc, h.cast_enc, Config.cast_mul, Config.cast_mul,
      Config.cast_mul, hcurve, add_mul]
  unfold pointOfBytes
  rw [if_neg hbytes]
  simp only [hat, List.getD_cons_zero, List.getD_cons_succ]
  rw [if_neg (not_or.mpr ⟨Nat.not_le.mpr (h.enc_lt _), Nat.not_le.mpr (h.enc_lt _)⟩), if_neg (not_not.mpr hmont)]

/-- The bytes of a point in the domain decode to a triple of the same denotation. -/
theorem pointOfBytes_pointBytes (h : c.FieldLegal) (hb : b % c.pMod ≠ 0) {v : Point Fp} (hv : pointOk c b v = true) :
    ∃ r, pointOfBytes c b (pointBytes c v) = some r ∧ c.denote (r.map c.dec) = c.denote (v.map c.dec) := by
  obtain ⟨-, hcurve⟩ : v.all (valid c) = true ∧ c.onCurve b (v.map c.dec) = true := by simpa [pointOk] using hv
  have hp : 0 < c.pMod := h.prime.pos
  unfold pointBytes
  cases ha : c.denote (v.map c.dec) with
  | none =>
    have hzeros : (List.replicate 192 (0 : Byte)).all (· == 0) = true :=
      List.all_eq_true.mpr fun x hx => beq_iff_eq.mpr (List.eq_of_mem_replicate hx)
    exact ⟨⟨0, c.one, 0⟩, if_pos hzeros, if_pos c.dec_zero⟩
  | some a =>
    obtain ⟨hx, hy⟩ := Config.denote_lt hp ha
    have heq := Config.denote_onCurve h.prime (Config.dec_lt hp v.z) hcurve ha
    have hne : a.x ≠ 0 ∨ a.y ≠ 0 := by
      by_contra! hzero
      refine hb (Nat.mod_eq_zero_of_dvd ((ZMod.natCast_eq_zero_iff b c.pMod).mp ?_))
      simpa [hzero] using heq.symm
    exact ⟨_, pointOfBytes_affine h hx hy hne heq, Config.denote_affineTriple h hx hy⟩

end

section
variable {s t u : State} {w w' : Word}

/-- A point load after the store of a point in the domain, over either group (R233, R234). -/
theorem pointLd_pointSt {g : CurveGroup} {ra rd : Idx} (h : s.cfg.FieldLegal) (hb : curveB s.cfg g % s.cfg.pMod ≠ 0)
    (hok : s.pointOk g ra) (hr : s.dptr.toNat + 192 ≤ s.cfg.dmemSize) (hlen : s.dlen = 192)
    (hst : pointSt w g ra s = .next t) (hld : pointLd w' g rd t = .next u) :
    u.err = s.err ∧ s.cfg.denote (u.residues g rd) = s.cfg.denote (s.residues g ra) := by
  rw [pointSt, if_pos hok] at hst
  rw [pointLd] at hld
  have hload := loadString_storeString (pointBytes_length ..) hr (by rw [hlen]; rfl) rfl hst hld
  obtain ⟨r, hr', hdenote⟩ := pointOfBytes_pointBytes h hb hok
  obtain rfl := storeString_inRange (by simpa using hr) hst
  simp only [hr'] at hload
  rw [eq_counted_of_complete hload]
  refine ⟨by simp, ?_⟩
  rw [State.residues, State.residues, State.getPoint_counted, State.getPoint_setPoint, if_pos ⟨rfl, rfl⟩,
    ← hdenote]
  simp

end

/-- Settles O58: the bytes of a store are those the load decodes, and each encoding decodes. -/
theorem roundTrip : Obligations.RoundTrip := by
  unfold Obligations.RoundTrip
  refine ⟨fun _ _ _ _ _ => getSc_scLd_scSt, fun _ _ _ _ _ => getFp_fpLd_fpSt, fun _ _ _ _ _ => getFp3_fp3Ld_fp3St,
    fun _ _ _ _ _ => getFp6_fp6Ld_fp6St, fun s t u ra rd g h hb hok hr hlen ij hij => ?_⟩
  simp only [List.mem_cons, Prod.mk.injEq, List.not_mem_nil, or_false] at hij
  rcases hij with ⟨rfl, rfl⟩ | ⟨rfl, rfl⟩ <;> exact pointLd_pointSt h hb hok hr hlen

end Machine
end Sys2Proof
end

section
/-! The decoder and the encoder are inverse to each other (R82 to R84, R89, R90), and what the decoder refuses (R91). -/

namespace Sys2Proof.Laws.Encoding

/-- The word of every command is accepted by the row that reads the command back. -/
theorem statement (i : Instr) : Statement i := by
  cases i
  exacts [nop, setPtr .., setLen .., clrErr, scLdi .., scLd .., scSt .., scMov .., fpZero .., fpOne .., fpModulus ..,
    fpMov .., fpLd .., fpSt .., fpFromSc .., fpToSc .., fpToMont .., fpFromMont .., fpAdd .., fpSub .., fpDouble ..,
    fpNeg .., fpLAdd .., fpLDouble .., fpLSub .., fpMul .., fpSquare .., fpInv .., fpExp .., fpSqrt .., fpIsQnr ..,
    fpMulNr .., fpCmp .., fpEq .., fpIsZero .., fpIsOne .., fpIsOdd .., fpIsEven .., fpIsValid .., fp3Zero ..,
    fp3One .., fp3Mov .., fp3Ld .., fp3St .., fp3Set .., fp3Get .., fp3Add .., fp3Sub .., fp3Double .., fp3Neg ..,
    fp3LAdd .., fp3Mul .., fp3Square .., fp3Inv .., fp3Exp .., fp3Frob .., fp3Mul0 .., fp3Eq .., fp3IsZero ..,
    fp3IsOne .., fp6Zero .., fp6One .., fp6Mov .., fp6Ld .., fp6St .., fp6Set .., fp6Get .., fp6Add .., fp6Sub ..,
    fp6Double .., fp6Neg .., fp6LAdd .., fp6Mul .., fp6Square .., fp6CycSq .., fp6Inv .., fp6Exp .., fp6Conj ..,
    fp6Frob .., fp6Mul014 .., fp6Mul034 .., fp6Eq .., fp6IsZero .., fp6IsOne .., fp6IsValid .., g1Zero .., g1Gen ..,
    g1Mov .., g1Ld .., g1St .., g1Set .., g1Get .., g1Add .., g1Double .., g1Neg .., g1Sub .., g1Affine ..,
    g1IsOnCurve .., g1IsAffine .., g1IsInf .., g1Eq .., g1MulSc .., g1ClrCof .., g1Msm .., g2Zero .., g2Gen ..,
    g2Mov .., g2Ld .., g2St .., g2Set .., g2Get .., g2Add .., g2Double .., g2Neg .., g2Sub .., g2Affine ..,
    g2IsOnCurve .., g2IsAffine .., g2IsInf .., g2Eq .., g2MulSc .., g2ClrCof .., g2Msm .., g2InSub .., pairAdd ..,
    pairAddInv .., pairReset, pairResult .., pairCheck, pairMiller .., fexp .., fexpEasy .., fexpHard ..]

end Sys2Proof.Laws.Encoding

namespace Sys2Proof

section
variable {w : Word} {i : Instr}

/-! ### What decoding answers (R89) -/

theorem decode_eq_ok {row : OpcodeRow} (h : row ∈ opcodeMap) (ho : row.opcode = opcodeOf w)
    (hm : w &&& row.mask = row.pattern) (hw : (row.make w).WellFormed) : decode w = .ok (row.make w) := by
  rw [decode_row h ho hm, hw]

theorem decode_eq_defect {row : OpcodeRow} {why : Illegal} (h : row ∈ opcodeMap) (ho : row.opcode = opcodeOf w)
    (hm : w &&& row.mask = row.pattern) (hd : (row.make w).defect = some why) : decode w = .error why := by
  rw [decode_row h ho hm, hd]

theorem decode_eq_fixedBits {row : OpcodeRow} (h : row ∈ opcodeMap) (ho : row.opcode = opcodeOf w)
    (hm : w &&& row.mask ≠ row.pattern) : decode w = .error .fixedBits := by
  rw [decode, ← ho, find_row h]
  exact if_pos hm

theorem decode_eq_unassignedOpcode (h : ∀ row ∈ opcodeMap, row.opcode ≠ opcodeOf w) :
    decode w = .error .unassignedOpcode := by
  have hnone : opcodeMap.find? (fun r => r.opcode == opcodeOf w) = none :=
    List.find?_eq_none.mpr fun row hrow => by simpa using h row hrow
  rw [decode, hnone]

/-- The inversion of `decode`: a legal word is accepted by a row, which reads the command. -/
theorem row_of_decode (h : decode w = .ok i) : ∃ row ∈ opcodeMap, w &&& row.mask = row.pattern ∧
    row.make w = i ∧ i.WellFormed := by
  by_cases hrow : ∃ row ∈ opcodeMap, row.opcode = opcodeOf w
  · obtain ⟨row, hrow, ho⟩ := hrow
    by_cases hm : w &&& row.mask = row.pattern
    · cases hd : (row.make w).defect with
      | none =>
        obtain rfl := Except.ok.inj ((decode_eq_ok hrow ho hm hd).symm.trans h)
        exact ⟨row, hrow, hm, rfl, hd⟩
      | some why => cases (decode_eq_defect hrow ho hm hd).symm.trans h
    · cases (decode_eq_fixedBits hrow ho hm).symm.trans h
  · cases (decode_eq_unassignedOpcode fun row hr ho => hrow ⟨row, hr, ho⟩).symm.trans h

/-! ### Encode, then decode -/

theorem decode_encode (h : i.WellFormed) : decode (encode i) = .ok i := by
  obtain ⟨row, hrow, ho, hm, hmake⟩ := Laws.Encoding.statement i
  rw [decode_eq_ok hrow ho hm (hmake.symm ▸ h), hmake]

theorem decode_encode_of_defect {why : Illegal} (h : i.defect = some why) : decode (encode i) = .error why := by
  obtain ⟨row, hrow, ho, hm, hmake⟩ := Laws.Encoding.statement i
  exact decode_eq_defect hrow ho hm (hmake.symm ▸ h)

end

/-- Settles O2: the row of the opcode map that accepts the word of a command reads the command back. -/
theorem decodeOfEncode : Obligations.DecodeOfEncode := by
  unfold Obligations.DecodeOfEncode
  exact fun _ => decode_encode

/-! ### Decode, then encode

The bits of a word that the mask of its row leaves out are its operands. Encoding the command that the row reads puts
each of them back in its place. -/

/-- Encoding what the row reads gives its opcode with the operand bits of the word. -/
def OpcodeRow.PutsBack (row : OpcodeRow) : Prop :=
  ∀ w, encode (row.make w) = row.pattern ||| (w &&& ~~~row.mask)

section
variable {op : BitVec 8} {mask : Word} {make : Word → Instr}

/-- A field below the opcode, in a pattern with operand bits. -/
theorem extractLsb'_operands (w : Word) {start len : Nat} (hlow : start + len ≤ 24) :
    (op ++ (0 : BitVec 24) ||| (w &&& ~~~mask)).extractLsb' start len =
      w.extractLsb' start len &&& (~~~mask).extractLsb' start len := by
  have hpattern : (op ++ (0 : BitVec 24)).extractLsb' start len = 0 := by
    rw [BitVec.extractLsb'_append_eq_of_add_le hlow]
    exact BitVec.extractLsb'_zero
  rw [BitVec.extractLsb'_or, BitVec.extractLsb'_and, hpattern]
  exact BitVec.zero_or

/-- The opcode in a pattern with operand bits, under a mask that covers it. -/
theorem opcodeOf_operands (w : Word) (hmask : opcodeOf (~~~mask) = 0) :
    opcodeOf (op ++ (0 : BitVec 24) ||| (w &&& ~~~mask)) = op := by
  calc opcodeOf (op ++ (0 : BitVec 24) ||| (w &&& ~~~mask))
      = opcodeOf (op ++ (0 : BitVec 24)) ||| (opcodeOf w &&& opcodeOf (~~~mask)) := by
        simp only [opcodeOf, BitVec.extractLsb'_or, BitVec.extractLsb'_and]
    _ = op ||| (opcodeOf w &&& 0) := congrArg₂ _ opcodeOf_wordS (by rw [hmask])
    _ = op := by simp

theorem putsBack_of_formatR (hmask : opcodeOf (~~~mask) = 0)
    (h : ∀ w, encode (make w) = wordR op (rdOf w &&& rdOf (~~~mask)) (raOf w &&& raOf (~~~mask))
      (rbOf w &&& rbOf (~~~mask)) (rcOf w &&& rcOf (~~~mask)) (imm8Of w &&& imm8Of (~~~mask))) :
    OpcodeRow.PutsBack ⟨op, mask, make⟩ := by
  intro w
  rw [h, OpcodeRow.pattern, ← wordR_fields (op ++ (0 : BitVec 24) ||| (w &&& ~~~mask)), opcodeOf_operands w hmask]
  congr 1 <;> exact (extractLsb'_operands w (by decide)).symm

theorem putsBack_of_formatS (hmask : opcodeOf (~~~mask) = 0)
    (h : ∀ w, encode (make w) = wordS op (imm24Of w &&& imm24Of (~~~mask))) :
    OpcodeRow.PutsBack ⟨op, mask, make⟩ := by
  intro w
  rw [h, OpcodeRow.pattern, ← wordS_fields (op ++ (0 : BitVec 24) ||| (w &&& ~~~mask)), opcodeOf_operands w hmask]
  exact congrArg _ (extractLsb'_operands w (by decide)).symm

theorem putsBack_of_formatI (hmask : opcodeOf (~~~mask) = 0)
    (h : ∀ w, encode (make w) = wordI op (rdOf w &&& rdOf (~~~mask)) (imm20Of w &&& imm20Of (~~~mask))) :
    OpcodeRow.PutsBack ⟨op, mask, make⟩ := by
  intro w
  rw [h, OpcodeRow.pattern, ← wordI_fields (op ++ (0 : BitVec 24) ||| (w &&& ~~~mask)), opcodeOf_operands w hmask]
  congr 1 <;> exact (extractLsb'_operands w (by decide)).symm

end

/-! A register or immediate field that is read in whole, and a register field read without its bit 3. -/

theorem field4_and_ones (f : BitVec 4) : f &&& 15#4 = f := BitVec.and_allOnes

theorem field8_and_ones (f : BitVec 8) : f &&& 255#8 = f := BitVec.and_allOnes

theorem field20_and_ones (f : BitVec 20) : f &&& 1048575#20 = f := BitVec.and_allOnes

theorem field24_and_ones (f : BitVec 24) : f &&& 16777215#24 = f := BitVec.and_allOnes

theorem field_idx_eq_and (f : BitVec 4) : field (idx f) = f &&& 7#4 := by
  revert f; decide

/-- Every row puts its operands back: the four rows of format S, the one of format I, and those of format R. -/
theorem opcodeMap_putsBack : ∀ row ∈ opcodeMap, row.PutsBack := by
  simp only [opcodeMap, systemRows, fpRows, fp3Rows, fp6Rows, g1Rows, g1ScalarRows, g2Rows, g2ScalarRows, pairingRows,
    List.forall_mem_append, List.forall_mem_cons, List.not_mem_nil, false_imp_iff, implies_true, and_true]
  and_intros
  iterate 4
    · refine putsBack_of_formatS rfl fun w => ?_
      simp [encode, imm24Of, field24_and_ones]
  · refine putsBack_of_formatI rfl fun w => ?_
    simp [encode, rdOf, imm20Of, field_idx_eq_and, field20_and_ones]
  all_goals
    refine putsBack_of_formatR rfl fun w => ?_
    simp [encode, rdOf, raOf, rbOf, rcOf, imm8Of, field_idx_eq_and, field4_and_ones, field8_and_ones]

/-- Settles O3: the bits under the mask are the row's pattern, and the encoder puts the others back. -/
theorem encodeOfDecode : Obligations.EncodeOfDecode := by
  unfold Obligations.EncodeOfDecode
  intro w i h
  obtain ⟨row, hrow, hm, rfl, hw⟩ := row_of_decode h
  refine ⟨hw, ?_⟩
  calc encode (row.make w)
      = row.pattern ||| (w &&& ~~~row.mask) := opcodeMap_putsBack row hrow w
    _ = (w &&& row.mask) ||| (w &&& ~~~row.mask) := by rw [hm]
    _ = w := by rw [← BitVec.and_or_distrib_left, BitVec.or_not_self, BitVec.and_allOnes]

end Sys2Proof

namespace Sys2Proof.Machine

/-! ### The word that the host presents (R80, R91) -/

section
variable {w : Word} {i : Instr} {e : Illegal} {s : State}

theorem execWord_eq_exec (h : decode w = .ok i) : execWord w s = exec i s := by
  rw [execWord, h]

theorem execWord_illegal (h : decode w = .error e) : execWord w s = .next (errorEntry .illegalCommand w s) := by
  rw [execWord, h]
  exact raise_eq ..

end

/-- The opcodes between the rows of R90. -/
def unassignedRanges : List (Nat × Nat) :=
  [(0x08, 0x0F), (0x2F, 0x2F), (0x45, 0x4F), (0x69, 0x6F), (0x83, 0x8F), (0xA4, 0xAF), (0xB9, 0xFF)]

theorem opcode_not_unassigned : ∀ range ∈ unassignedRanges, ∀ row ∈ opcodeMap,
    ¬(range.1 ≤ row.opcode.toNat ∧ row.opcode.toNat ≤ range.2) := by
  decide +kernel

/-- Settles O4: each clause is one of the reasons for which decoding refuses a word. -/
theorem illegalWords : Obligations.IllegalWords := by
  unfold Obligations.IllegalWords
  refine ⟨fun w s e => execWord_illegal, fun range hrange w hlow hhigh => ?_, fun w row hrow ho hm => ?_,
    fun i hi => ?_⟩
  · exact ⟨_, decode_eq_unassignedOpcode fun row hrow ho =>
      opcode_not_unassigned range hrange row hrow (ho ▸ ⟨hlow, hhigh⟩)⟩
  · exact ⟨_, decode_eq_fixedBits hrow ho hm⟩
  · obtain ⟨why, hd⟩ := Option.ne_none_iff_exists'.mp hi
    exact ⟨why, decode_encode_of_defect hd⟩

/-- Settles O1: decoding computes on each word; the illegal ones set bit 3 of an index and an unused field. -/
theorem workedEncodings : Obligations.WorkedEncodings := by
  unfold Obligations.WorkedEncodings
  refine ⟨rfl, rfl, rfl, rfl, rfl, rfl, rfl, rfl, rfl, rfl, fun s => ?_⟩
  have hindex : decode 0x30800000 = .error .fixedBits := rfl
  have hunused : decode 0x1A123001 = .error .fixedBits := rfl
  exact List.forall_mem_cons.mpr
    ⟨execWord_illegal hindex, List.forall_mem_singleton.mpr (execWord_illegal hunused)⟩

/-- Settles O5: the equation of a step on a presented word, legal or not. -/
theorem stepRunsPresentedCommand : Obligations.StepRunsPresentedCommand := by
  unfold Obligations.StepRunsPresentedCommand
  intro s w rest hhost
  rw [step_command hhost]
  exact ⟨fun _ => execWord_eq_exec, fun _ => execWord_illegal⟩

end Sys2Proof.Machine
end

section
/-! The base field in the integers modulo `p` (R13, R111, R112): what the fully reduced operations and the Montgomery
product leave in a register, and which residue it denotes. -/
namespace Sys2Proof

/-- One conditional subtraction reduces a value below `2p` (R112, R130). -/
theorem mod_eq_ite {n p : Nat} (h : n < 2 * p) : n % p = if n < p then n else n - p := by
  split
  · exact Nat.mod_eq_of_lt ‹_›
  · rw [Nat.mod_eq_sub_mod (by omega), Nat.mod_eq_of_lt (by omega)]

namespace Config

variable {c : Config}

theorem Sized.one_lt (h : c.Sized) : 1 < c.pMod := (by decide : 1 < 4).trans h.low

theorem cast_dec (x : Fp) : (c.dec x : ZMod c.pMod) = x.toNat * c.rInv := by simp [dec]

/-- A register whose value times `R⁻¹` is `n` modulo `p` denotes `n mod p`. -/
theorem dec_eq_mod (h : c.Sized) {v : Fp} {n : Nat} (hv : (v.toNat * c.rInv : ZMod c.pMod) = n) :
    c.dec v = n % c.pMod :=
  eq_of_cast_eq (dec_lt h.pos v) (Nat.mod_lt _ h.pos) (by rw [cast_dec, hv, ZMod.natCast_mod])

/-- What a register denotes depends on its value modulo `p` only. -/
theorem dec_congr {v w : Fp} (h : v.toNat % c.pMod = w.toNat % c.pMod) : c.dec v = c.dec w :=
  Nat.ModEq.mul_right c.rInv h

/-- A value below `2p` fits a register (R111). -/
theorem Sized.toNat_ofNat (h : c.Sized) {n : Nat} (hn : n < 2 * c.pMod) : (BitVec.ofNat 768 n).toNat = n := by
  have hw : 2 * c.pMod ≤ 2 ^ 768 := by have := h.high; omega
  rw [BitVec.toNat_ofNat, Nat.mod_eq_of_lt (hn.trans_le hw)]

theorem Sized.toNat_ofNat_mod (h : c.Sized) (n : Nat) : (BitVec.ofNat 768 (n % c.pMod)).toNat = n % c.pMod :=
  h.toNat_ofNat (by have := Nat.mod_lt n h.pos; omega)

theorem Sized.cast_toNat_ofNat_mod (h : c.Sized) (n : Nat) :
    ((BitVec.ofNat 768 (n % c.pMod)).toNat : ZMod c.pMod) = n := by
  rw [h.toNat_ofNat_mod, ZMod.natCast_mod]

/-! ### The Montgomery product -/

theorem Sized.cast_rInv (h : c.Sized) : (c.rInv * (2 ^ 768 : Nat) : ZMod c.pMod) = 1 := by
  rw [← Nat.cast_mul, ← ZMod.natCast_mod, rInv_mul h.odd h.one_lt, Nat.cast_one]

theorem mont_lt (h : c.Sized) (x y : Nat) : c.mont x y < c.pMod := Nat.mod_lt _ h.pos

theorem cast_mont (x y : Nat) : (c.mont x y : ZMod c.pMod) = x * y * c.rInv := by simp [mont]

theorem toNat_mont (h : c.Sized) (x y : Nat) : (BitVec.ofNat 768 (c.mont x y)).toNat = c.mont x y :=
  h.toNat_ofNat_mod _

/-- A Montgomery product denotes the product of the residues. -/
theorem dec_mont (h : c.Sized) (x y : Fp) :
    c.dec (BitVec.ofNat 768 (c.mont x.toNat y.toNat)) = c.dec x * c.dec y % c.pMod := by
  refine dec_eq_mod h ?_
  rw [toNat_mont h, cast_mont, Nat.cast_mul, cast_dec, cast_dec]
  ring

/-- The product by `R²` is the Montgomery form (R128). -/
theorem mont_r2 (h : c.Sized) (x : Nat) : c.mont x c.r2 = x * 2 ^ 768 % c.pMod := by
  refine eq_of_cast_eq (mont_lt h ..) (Nat.mod_lt _ h.pos) ?_
  rw [cast_mont, r2, ZMod.natCast_mod, ZMod.natCast_mod, Nat.cast_mul, Nat.cast_mul]
  linear_combination (x * (2 ^ 768 : Nat) : ZMod c.pMod) * h.cast_rInv

theorem mont_one (x : Fp) : c.mont x.toNat 1 = c.dec x := by rw [mont, Nat.mul_one, dec]

end Config

namespace Machine

variable {c : Config}

/-! ### The fully reduced operations on raw values (R130 to R133) -/

theorem rawAdd_toNat (h : c.Sized) {x y : Fp} (hx : x.toNat < c.pMod) (hy : y.toNat < c.pMod) :
    (rawAdd c x y).toNat =
      if x.toNat + y.toNat < c.pMod then x.toNat + y.toNat else x.toNat + y.toNat - c.pMod := by
  rw [rawAdd, h.toNat_ofNat_mod, mod_eq_ite (by omega)]

theorem dec_rawAdd (h : c.Sized) (x y : Fp) : c.dec (rawAdd c x y) = (c.dec x + c.dec y) % c.pMod := by
  refine Config.dec_eq_mod h ?_
  rw [rawAdd, h.cast_toNat_ofNat_mod, Nat.cast_add, Nat.cast_add, Config.cast_dec, Config.cast_dec, add_mul]

theorem rawSub_toNat (h : c.Sized) {x y : Fp} (hx : x.toNat < c.pMod) (hy : y.toNat < c.pMod) :
    (rawSub c x y).toNat = if y.toNat ≤ x.toNat then x.toNat - y.toNat else x.toNat + c.pMod - y.toNat := by
  rw [rawSub, h.toNat_ofNat_mod, mod_eq_ite (by omega)]
  split <;> split <;> omega

theorem dec_rawSub_add (h : c.Sized) (x : Fp) {y : Fp} (hy : y.toNat < c.pMod) :
    (c.dec (rawSub c x y) + c.dec y) % c.pMod = c.dec x := by
  refine Config.eq_of_cast_eq (Nat.mod_lt _ h.pos) (Config.dec_lt h.pos x) ?_
  rw [ZMod.natCast_mod, Nat.cast_add, Config.cast_dec, Config.cast_dec, Config.cast_dec, rawSub,
    h.cast_toNat_ofNat_mod, Nat.cast_add, Nat.cast_sub hy.le, ZMod.natCast_self]
  ring

theorem rawDouble_toNat (h : c.Sized) (x : Fp) : (rawDouble c x).toNat = 2 * x.toNat % c.pMod := h.toNat_ofNat_mod _

theorem dec_rawDouble (h : c.Sized) (x : Fp) : c.dec (rawDouble c x) = 2 * c.dec x % c.pMod := by
  refine Config.dec_eq_mod h ?_
  rw [rawDouble, h.cast_toNat_ofNat_mod, Nat.cast_mul, Nat.cast_mul, Config.cast_dec, mul_assoc]

theorem toNat_eq_zero_iff (x : Fp) : x.toNat = 0 ↔ x = 0 := by simp [← BitVec.toNat_inj]

theorem rawNeg_toNat (h : c.Sized) (x : Fp) : (rawNeg c x).toNat = if x.toNat = 0 then 0 else c.pMod - x.toNat := by
  rw [rawNeg]
  by_cases hx : x = 0
  · rw [if_pos hx, if_pos ((toNat_eq_zero_iff x).mpr hx), (toNat_eq_zero_iff 0).mpr rfl]
  · rw [if_neg hx, if_neg (mt (toNat_eq_zero_iff x).mp hx), h.toNat_ofNat (by have := h.pos; omega)]

theorem dec_rawNeg_add (h : c.Sized) {x : Fp} (hx : x.toNat < c.pMod) :
    (c.dec (rawNeg c x) + c.dec x) % c.pMod = 0 := by
  have hsum : ((rawNeg c x).toNat + x.toNat : ZMod c.pMod) = 0 := by
    rw [rawNeg_toNat h]
    split
    · simp_all
    · rw [Nat.cast_sub hx.le, ZMod.natCast_self]; ring
  refine Config.eq_of_cast_eq (Nat.mod_lt _ h.pos) h.pos ?_
  rw [ZMod.natCast_mod, Nat.cast_add, Config.cast_dec, Config.cast_dec, ← add_mul, hsum, zero_mul, Nat.cast_zero]

/-- The product by `BETA` (R143). -/
theorem beta_mul_toNat (h : c.Sized) (x : Fp) :
    (BitVec.ofNat 768 (c.beta * x.toNat % c.pMod)).toNat = (c.pMod - 4) * x.toNat % c.pMod := by
  rw [h.toNat_ofNat_mod, Config.beta_eq h.low]

theorem dec_beta_mul (h : c.Sized) (x : Fp) :
    c.dec (BitVec.ofNat 768 (c.beta * x.toNat % c.pMod)) = (c.pMod - 4) * c.dec x % c.pMod := by
  refine Config.dec_eq_mod h ?_
  rw [h.cast_toNat_ofNat_mod, Config.beta_eq h.low, Nat.cast_mul, Nat.cast_mul, Config.cast_dec, mul_assoc]

/-! ### The commands with a Montgomery result, in domain -/

section
variable (s : State) (rd : FpIdx) {ra rb : FpIdx}

theorem setsFp_fpMul (ha : lazyOk s.cfg (s.getFp ra) = true) (hb : lazyOk s.cfg (s.getFp rb) = true) :
    SetsFp (.fpMul rd ra rb) s rd (BitVec.ofNat 768 (s.cfg.mont (s.getFp ra).toNat (s.getFp rb).toNat)) := by
  simp only [SetsFp, exec, execFpMul, fpBinary_inDomain s _ rd ra rb ha hb]

theorem setsFp_fpSquare (ha : lazyOk s.cfg (s.getFp ra) = true) :
    SetsFp (.fpSquare rd ra) s rd (BitVec.ofNat 768 (s.cfg.mont (s.getFp ra).toNat (s.getFp ra).toNat)) := by
  simp only [SetsFp, exec, execFpSquare, fpUnary_inDomain s _ rd ra ha]

theorem setsFp_fpToMont (ha : lazyOk s.cfg (s.getFp ra) = true) :
    SetsFp (.fpToMont rd ra) s rd (BitVec.ofNat 768 (s.cfg.mont (s.getFp ra).toNat s.cfg.r2)) := by
  simp only [SetsFp, exec, execFpToMont, fpUnary_inDomain s _ rd ra ha]

theorem setsFp_fpFromMont (ha : lazyOk s.cfg (s.getFp ra) = true) :
    SetsFp (.fpFromMont rd ra) s rd (BitVec.ofNat 768 (s.cfg.mont (s.getFp ra).toNat 1)) := by
  simp only [SetsFp, exec, execFpFromMont, fpUnary_inDomain s _ rd ra ha]

theorem setsFp_fpMulNr (ha : valid s.cfg (s.getFp ra) = true) :
    SetsFp (.fpMulNr rd ra) s rd (BitVec.ofNat 768 (s.cfg.beta * (s.getFp ra).toNat % s.cfg.pMod)) := by
  simp only [SetsFp, exec, execFpMulNr, fpUnary_inDomain s _ rd ra ha]

end

/-- Settles O27: each command has one of the two shared shapes, and the laws of the raw operations say what it
leaves. -/
theorem fpAdditive : Obligations.FpAdditive := by
  unfold Obligations.FpAdditive
  refine ⟨fun s rd ra rb h hx hy => ⟨?add, ?sub⟩, fun s rd ra h hx => ⟨?double, ?neg, ?mulnr⟩⟩
  case add =>
    exact ⟨_, rawAdd_toNat h hx hy, dec_rawAdd h _ _,
      fpBinary_inDomain s rawAdd rd ra rb (decide_eq_true hx) (decide_eq_true hy)⟩
  case sub =>
    exact ⟨_, rawSub_toNat h hx hy, dec_rawSub_add h _ hy,
      fpBinary_inDomain s rawSub rd ra rb (decide_eq_true hx) (decide_eq_true hy)⟩
  case double =>
    exact ⟨_, rawDouble_toNat h _, dec_rawDouble h _, fpUnary_inDomain s rawDouble rd ra (decide_eq_true hx)⟩
  case neg => exact ⟨_, rawNeg_toNat h _, dec_rawNeg_add h hx, fpUnary_inDomain s rawNeg rd ra (decide_eq_true hx)⟩
  case mulnr => exact ⟨_, beta_mul_toNat h _, dec_beta_mul h _, setsFp_fpMulNr s rd (decide_eq_true hx)⟩

/-- Settles O28: the commands write the Montgomery product of the operands, of the operand with `R²`, and with 1. -/
theorem fpMontgomery : Obligations.FpMontgomery := by
  unfold Obligations.FpMontgomery
  refine ⟨fun s rd ra rb h hx hy => ?mul, fun s rd ra h hx => ?_⟩
  case mul =>
    refine ⟨_, ?_, ?_, Config.dec_mont h _ _, setsFp_fpMul s rd (decide_eq_true hx) (decide_eq_true hy)⟩ <;>
      rw [Config.toNat_mont h]
    · exact Config.mont_lt h _ _
    · exact Config.mont_mul_R h.odd h.one_lt _ _
  have hok : lazyOk s.cfg (s.getFp ra) = true := decide_eq_true hx
  refine ⟨?square, ?toMont, ?fromMont⟩
  case square => exact (setsFp_fpSquare s rd hok).trans (setsFp_fpMul s rd hok hok).symm
  case toMont =>
    exact ⟨_, (Config.toNat_mont h _ _).trans (Config.mont_r2 h _), setsFp_fpToMont s rd hok⟩
  case fromMont =>
    refine ⟨_, ?_, ?_, ?_, setsFp_fpFromMont s rd hok⟩ <;> rw [Config.toNat_mont h, Config.mont_one]
    · exact Config.dec_lt h.pos _
    · exact Config.dec_mul_R h.odd h.one_lt _

end Machine
end Sys2Proof
end

section
/-! The base field commands that move, load, store and test raw values (R120 to R127, R144 to R150). -/
namespace Sys2Proof.Machine

variable {s : State} {w : Word}

/-! ### Loads and stores -/

theorem loadString_inRange {ok : Nat → Bool} (f : List Byte → Result)
    (hr : s.dptr.toNat + s.dlen.toNat ≤ s.cfg.dmemSize) (hok : ok s.dlen.toNat = true) :
    loadString w ok s f = f s.loaded := by
  rw [loadString, if_neg (Nat.not_lt.mpr hr), if_pos hok, State.loaded]

theorem loadString_outOfRange (ok : Nat → Bool) (f : List Byte → Result)
    (hr : s.cfg.dmemSize < s.dptr.toNat + s.dlen.toNat) :
    loadString w ok s f = .next (errorEntry .dmemRange w s) := by
  rw [loadString, if_pos hr, raise_eq]

theorem storeString_outOfRange {bytes : List Byte} (hr : s.cfg.dmemSize < s.dptr.toNat + bytes.length) :
    storeString w bytes s = .next (errorEntry .dmemRange w s) := by
  rw [storeString, if_pos hr, raise_eq]

/-- A store command in range stores the value whose big-endian bytes it writes (R53, R54). -/
theorem stores_of_storeString {i : Instr} {n value : Nat} (hi : exec i s = storeString w (bytesOf n value) s)
    (hr : s.dptr.toNat + n ≤ s.cfg.dmemSize) : Stores i s n value 0 := by
  refine stores_of_memWrite (hi.trans ?_)
  rw [storeString, bytesOf_length, if_neg (Nat.not_lt.mpr hr)]
  rfl

theorem be_lt (str : List Byte) : be str < 256 ^ str.length := by
  induction str using List.reverseRecOn with
  | nil => simp [be]
  | append_singleton str b ih =>
    have hb : b.toNat < 256 := b.isLt
    rw [be_concat, List.length_append, List.length_singleton, pow_succ]
    omega

/-- At most 96 bytes hold a raw value (R61). -/
theorem toNat_be {str : List Byte} (h : str.length ≤ 96) : (BitVec.ofNat 768 (be str)).toNat = be str := by
  rw [BitVec.toNat_ofNat, Nat.mod_eq_of_lt]
  calc be str < 256 ^ str.length := be_lt str
    _ ≤ 256 ^ 96 := Nat.pow_le_pow_right (by decide) h
    _ = 2 ^ 768 := by decide +kernel

theorem loaded_length (s : State) : s.loaded.length = s.dlen.toNat := memRead_length ..

theorem exec_fpLd_inRange (r : FpIdx) (hr : s.dptr.toNat + s.dlen.toNat ≤ s.cfg.dmemSize) : exec (.fpLd r) s =
    .next (s.putFp r (inDomain (decide (s.dlen.toNat ≤ 96)) (BitVec.ofNat 768 (be s.loaded)))).counted := by
  rw [← loaded_length]
  simp only [exec, execFpLd, loadString_inRange _ hr, complete_eq]

/-- Settles O26: in range or not, and a load by its length. -/
theorem fpLoadStore : Obligations.FpLoadStore := by
  unfold Obligations.FpLoadStore
  refine fun s r => ⟨fun hr hn => ?short, fun hr hn => ?long, fun hr => ?loadRange, fun hr => ?store,
    fun hr => ?storeRange⟩
  case short =>
    refine ⟨_, toNat_be ((loaded_length s).trans_le hn), ?_⟩
    rw [SetsFp, exec_fpLd_inRange r hr, decide_eq_true hn, inDomain_true, State.putFp]
  case long => rw [exec_fpLd_inRange r hr, decide_eq_false (Nat.not_le.mpr hn), inDomain_false, State.putFp]
  case loadRange => simp only [exec, execFpLd, loadString_outOfRange _ _ hr]
  case store => exact stores_of_storeString (w := encode (.fpSt r)) (by simp only [exec, execFpSt, fpBytes]) hr
  case storeRange =>
    rw [← fpBytes_length (s.getFp r)] at hr
    simp only [exec, execFpSt, storeString_outOfRange hr]

/-! ### Constants, moves and predicates -/

theorem one_eq (c : Config) : c.one = BitVec.ofNat 768 (2 ^ 768 % c.pMod) := by rw [Config.one, Config.enc, Nat.one_mul]

/-- Settles O25: each command completes with the register of its rule written. -/
theorem fpConstantsAndMoves : Obligations.FpConstantsAndMoves := by
  unfold Obligations.FpConstantsAndMoves
  intro s r a k
  rw [← one_eq]
  exact ⟨rfl, rfl, rfl, rfl, rfl, rfl⟩

theorem beq_eq_decide_toNat (x y : Fp) : (x == y) = decide (x.toNat = y.toNat) := by
  rw [Bool.eq_iff_iff, beq_iff_eq, decide_eq_true_iff, BitVec.toNat_inj]

theorem getLsbD_zero_eq_decide (x : Fp) : x.getLsbD 0 = decide (x.toNat % 2 = 1) := by
  rw [BitVec.getLsbD, Nat.testBit_zero]

theorem not_getLsbD_zero_eq_decide (x : Fp) : (!x.getLsbD 0) = decide (x.toNat % 2 = 0) := by
  simp only [getLsbD_zero_eq_decide, ← decide_not, Nat.mod_two_not_eq_one]

theorem beq_zero_eq_decide (x : Fp) : (x == 0) = decide (x.toNat = 0) := by
  rw [Bool.eq_iff_iff, beq_iff_eq, decide_eq_true_iff, toNat_eq_zero_iff]

/-- Settles O35: the laws of the fields of `FLAG`, and each predicate as a fact about the raw integers. -/
theorem fpPredicates : Obligations.FpPredicates := by
  unfold Obligations.FpPredicates
  refine ⟨fun s b cmp => by simp, fun s ra rb => ⟨rfl, ?eq, ?zero, ?one, ?odd, ?even, rfl⟩⟩
  case eq => simp only [SetsB, exec, execFpEq, beq_eq_decide_toNat, complete_eq]
  case zero => simp only [SetsB, exec, execFpIsZero, beq_zero_eq_decide, complete_eq]
  case one => simp only [SetsB, exec, execFpIsOne, one_eq, beq_eq_decide, complete_eq]
  case odd => simp only [SetsB, exec, execFpIsOdd, getLsbD_zero_eq_decide, complete_eq]
  case even => simp only [SetsB, exec, execFpIsEven, not_getLsbD_zero_eq_decide, complete_eq]

end Sys2Proof.Machine
end

section
/-! The word-serial Montgomery product (R112): each round adds the multiple of the modulus that clears one limb, so
twelve rounds compute the exact quotient of `x·y + m·p` by `R`, and one conditional subtraction reduces it. -/
namespace Sys2Proof

/-- An odd number to the power `2^(k+1)` is 1 modulo `2^(k+3)`: squaring doubles the modulus (R10). -/
theorem odd_pow_two_pow {a : Nat} (ha : a % 2 = 1) (k : Nat) : a ^ 2 ^ (k + 1) ≡ 1 [MOD 2 ^ (k + 3)] := by
  have hpos (n : Nat) : 1 ≤ a ^ n := Nat.one_le_pow _ _ (by omega)
  induction k with
  | zero => exact ((Nat.modEq_iff_dvd' (hpos _)).mpr (Nat.eight_dvd_sq_sub_one_of_odd (Nat.odd_iff.mpr ha))).symm
  | succ k ih =>
    obtain ⟨q, hq⟩ := (Nat.modEq_iff_dvd' (hpos _)).mp ih.symm
    have hroot : a ^ 2 ^ (k + 1) = 1 + 2 ^ (k + 3) * q := by have := hpos (2 ^ (k + 1)); omega
    have hsquare : a ^ 2 ^ (k + 2) = 1 + (q + 2 ^ (k + 2) * q ^ 2) * 2 ^ (k + 4) := by
      rw [pow_succ 2 (k + 1), pow_mul, hroot]; ring
    rw [hsquare]
    exact Nat.add_mul_modulus_modEq_iff.mpr rfl

namespace Config

variable {c : Config}

/-- `INP` is the negative inverse of the modulus modulo a limb (R10). -/
theorem inp_mul_pMod (h : c.Sized) : 2 ^ 64 ∣ c.inp * c.pMod + 1 := by
  have hinp : c.inp = (2 ^ 64 - c.pMod ^ (2 ^ 62 - 1) % 2 ^ 64) % 2 ^ 64 := by rw [inp, powMod_eq, ← Nat.pow_mod]
  have hinv : c.pMod ^ (2 ^ 62 - 1) % 2 ^ 64 * c.pMod ≡ 1 [MOD 2 ^ 64] := by
    rw [Nat.ModEq, Nat.mod_mul_mod, ← pow_succ]
    exact odd_pow_two_pow h.odd 61
  have hle : c.pMod ^ (2 ^ 62 - 1) % 2 ^ 64 ≤ 2 ^ 64 := (Nat.mod_lt _ (by decide)).le
  generalize c.pMod ^ (2 ^ 62 - 1) % 2 ^ 64 = k at hinp hinv hle
  have hmod : c.inp * c.pMod + 1 ≡ (2 ^ 64 - k) * c.pMod + k * c.pMod [MOD 2 ^ 64] :=
    hinp ▸ ((Nat.mod_modEq _ _).mul_right _).add hinv.symm
  rw [hmod.dvd_iff dvd_rfl, ← add_mul, Nat.sub_add_cancel hle]
  exact Nat.dvd_mul_right _ _

/-- The limbs up to one of them are those below it and that one. -/
theorem mod_limb_succ (x n : Nat) : x % 2 ^ (64 * (n + 1)) = x % 2 ^ (64 * n) + limb x n * 2 ^ (64 * n) := by
  rw [limb, Nat.mul_succ, pow_add, Nat.mod_mul, mul_comm (2 ^ (64 * n))]

/-- The multiple of the modulus that a round adds. -/
def montMultiple (c : Config) (t : Nat) : Nat := t % 2 ^ 64 * c.inp % 2 ^ 64

theorem montSerialGo_succ (x y n : Nat) : c.montSerialGo x y (n + 1) =
    (c.montSerialGo x y n + limb x n * y + c.montMultiple (c.montSerialGo x y n + limb x n * y) * c.pMod) / 2 ^ 64 :=
  rfl

theorem montMultiple_lt (t : Nat) : c.montMultiple t < 2 ^ 64 := Nat.mod_lt _ (by decide)

/-- It clears the lowest limb. -/
theorem montMultiple_clears (h : c.Sized) (t : Nat) : 2 ^ 64 ∣ t + c.montMultiple t * c.pMod := by
  have hmod : t + c.montMultiple t * c.pMod ≡ t + t * c.inp * c.pMod [MOD 2 ^ 64] :=
    ((((Nat.mod_modEq t _).mul_right _).symm.trans (Nat.mod_modEq _ _).symm).symm.mul_right _).add_left t
  rw [hmod.dvd_iff dvd_rfl, show t + t * c.inp * c.pMod = t * (c.inp * c.pMod + 1) by ring]
  exact (inp_mul_pMod h).mul_left t

/-- The running value after `n` rounds: shifted by `n` limbs it is the product so far and a multiple of `p`. -/
theorem montSerialGo_eq (h : c.Sized) (x y n : Nat) : ∃ m < 2 ^ (64 * n),
    c.montSerialGo x y n * 2 ^ (64 * n) = x % 2 ^ (64 * n) * y + m * c.pMod := by
  induction n with
  | zero => exact ⟨0, by simp, by simp [montSerialGo, Nat.mod_one]⟩
  | succ n ih =>
    obtain ⟨m, hm, ih⟩ := ih
    have hround := Nat.div_mul_cancel (montMultiple_clears h (c.montSerialGo x y n + limb x n * y))
    rw [← montSerialGo_succ] at hround
    have hk := montMultiple_lt (c := c) (c.montSerialGo x y n + limb x n * y)
    generalize c.montMultiple (c.montSerialGo x y n + limb x n * y) = k at hround hk
    refine ⟨m + k * 2 ^ (64 * n), ?_, ?_⟩
    · calc m + k * 2 ^ (64 * n) < (k + 1) * 2 ^ (64 * n) := by rw [add_one_mul]; omega
        _ ≤ 2 ^ 64 * 2 ^ (64 * n) := Nat.mul_le_mul_right _ hk
        _ = 2 ^ (64 * (n + 1)) := by rw [← pow_add, Nat.mul_succ, Nat.add_comm]
    · rw [mod_limb_succ, Nat.mul_succ 64, pow_add, mul_comm (2 ^ (64 * n)), ← mul_assoc, hround]
      linear_combination ih

/-- After the last round the running value is below `2p`, for operands below `2p`. -/
theorem montSerialGo_lt (h : c.Sized) {x y m t : Nat} (hx : x < 2 * c.pMod) (hy : y < 2 * c.pMod)
    (hm : m < 2 ^ 768) (ht : t * 2 ^ 768 = x * y + m * c.pMod) : t < 2 * c.pMod := by
  have hp : 4 * c.pMod ≤ 2 ^ 768 := by have := h.high; omega
  refine Nat.lt_of_mul_lt_mul_right (a := 2 ^ 768) ?_
  calc t * 2 ^ 768 = x * y + m * c.pMod := ht
    _ < 2 * c.pMod * (2 * c.pMod) + 2 ^ 768 * c.pMod :=
      Nat.add_lt_add (Nat.mul_lt_mul'' hx hy) (Nat.mul_lt_mul_of_pos_right hm h.pos)
    _ = (4 * c.pMod + 2 ^ 768) * c.pMod := by ring
    _ ≤ (2 ^ 768 + 2 ^ 768) * c.pMod := Nat.mul_le_mul_right _ (Nat.add_le_add_right hp _)
    _ = 2 * c.pMod * 2 ^ 768 := by ring

/-- Settles O29: `R` times the value after twelve rounds is the product modulo `p`, and the last step reduces it. -/
theorem wordSerialMontgomery : Obligations.WordSerialMontgomery := by
  unfold Obligations.WordSerialMontgomery
  intro c x y h hx hy
  have hrounds := montSerialGo_eq h x y 12
  rw [show 64 * 12 = 768 from rfl] at hrounds
  obtain ⟨m, hm, ht⟩ := hrounds
  have hxR : x < 2 ^ 768 := by have := h.high; omega
  rw [Nat.mod_eq_of_lt hxR] at ht
  have hcast : (c.montSerialGo x y 12 * (2 ^ 768 : Nat) : ZMod c.pMod) = x * y := by
    rw [← Nat.cast_mul, ht, Nat.cast_add, Nat.cast_mul, Nat.cast_mul, ZMod.natCast_self, mul_zero, add_zero]
  have hmod : c.montSerialGo x y 12 % c.pMod = c.mont x y := by
    refine eq_of_cast_eq (Nat.mod_lt _ h.pos) (mont_lt h x y) ?_
    rw [ZMod.natCast_mod, cast_mont]
    linear_combination c.rInv * hcast - (c.montSerialGo x y 12 : ZMod c.pMod) * h.cast_rInv
  rw [← hmod, mod_eq_ite (montSerialGo_lt h hx hy hm ht), montSerial]
  simp only [ge_iff_le, ← Nat.not_lt, ite_not]

end Config
end Sys2Proof
end

section
/-! Inverse, power and square root in the base field (R139 to R142): Euler's criterion over residues modulo a prime that
is 3 modulo 4. -/
namespace Sys2Proof

namespace Config

variable {c : Config}

theorem isSquare_cast_iff (h : 0 < c.pMod) {a : Nat} (ha : a < c.pMod) :
    IsSquare (a : ZMod c.pMod) ↔ ∃ r, r * r % c.pMod = a := by
  have : NeZero c.pMod := ⟨h.ne'⟩
  constructor
  · rintro ⟨r, hr⟩
    refine ⟨r.val, eq_of_cast_eq (Nat.mod_lt _ h) ha ?_⟩
    rw [ZMod.natCast_mod, Nat.cast_mul, ZMod.natCast_zmod_val, hr]
  · rintro ⟨r, rfl⟩
    exact ⟨r, by rw [ZMod.natCast_mod, Nat.cast_mul]⟩

/-- Euler's criterion for `a^((p−1)/2) = p − 1` (R142). -/
theorem pow_half_eq_iff (h : c.FieldLegal) {a : Nat} (ha : a < c.pMod) :
    c.pow a ((c.pMod - 1) / 2) = c.pMod - 1 ↔ ¬∃ r, r * r % c.pMod = a := by
  have := Fact.mk h.prime
  have : Fact (2 < c.pMod) := ⟨by have := h.mod12; have := h.prime.two_le; omega⟩
  have hpos := h.prime.pos
  have hhalf : (c.pMod - 1) / 2 = c.pMod / 2 := by have := h.mod12; omega
  have hcast : c.pow a ((c.pMod - 1) / 2) = c.pMod - 1 ↔ (a : ZMod c.pMod) ^ (c.pMod / 2) = -1 := by
    have hlast : ((c.pMod - 1 : Nat) : ZMod c.pMod) = -1 := by rw [Nat.cast_pred hpos, ZMod.natCast_self, zero_sub]
    rw [← cast_pow, ← hlast, hhalf]
    exact ⟨fun e => by rw [e], eq_of_cast_eq (pow_lt hpos ..) (by omega)⟩
  rw [hcast, ← isSquare_cast_iff hpos ha]
  rcases eq_or_ne (a : ZMod c.pMod) 0 with h0 | h0
  · have hne : c.pMod / 2 ≠ 0 := by have := h.mod12; omega
    simp [h0, hne]
  · rw [ZMod.euler_criterion _ h0]
    rcases ZMod.pow_div_two_eq_neg_one_or_one _ h0 with h1 | h1 <;> rw [h1]
    · simp [ZMod.neg_one_ne_one.symm]
    · simp [ZMod.neg_one_ne_one]

/-- The power of R141 is a root of a residue that has one. -/
theorem sq_pow_quarter_eq_iff (h : c.FieldLegal) {a : Nat} (ha : a < c.pMod) :
    c.sq (c.pow a ((c.pMod + 1) / 4)) = a ↔ ∃ r, r * r % c.pMod = a := by
  refine ⟨fun e => ⟨_, e⟩, fun hroot => ?_⟩
  have := Fact.mk h.prime
  refine eq_of_cast_eq (mul_lt h.prime.pos ..) ha ?_
  rw [cast_sq, cast_pow, ← pow_add, show (c.pMod + 1) / 4 + (c.pMod + 1) / 4 = c.pMod / 2 + 1 by
    have := h.mod12; omega]
  rcases eq_or_ne (a : ZMod c.pMod) 0 with h0 | h0
  · rw [h0, zero_pow (Nat.succ_ne_zero _)]
  · rw [pow_succ, (ZMod.euler_criterion _ h0).mp ((isSquare_cast_iff h.prime.pos ha).mpr hroot), one_mul]

/-- A valid value is the form of what it denotes, modulo `p` (R13). -/
theorem FieldLegal.cast_toNat (h : c.FieldLegal) (x : Fp) :
    (x.toNat : ZMod c.pMod) = c.dec x * (2 ^ 768 : Nat) := by
  rw [cast_dec]
  linear_combination -(x.toNat : ZMod c.pMod) * h.cast_rInv

theorem FieldLegal.cast_dec_ne_zero (h : c.FieldLegal) {x : Fp} (hx : x.toNat < c.pMod) (h0 : x ≠ 0) :
    (c.dec x : ZMod c.pMod) ≠ 0 := by
  intro hdec
  have hcast : (x.toNat : ZMod c.pMod) = (0 : Nat) := by rw [h.cast_toNat, hdec, zero_mul, Nat.cast_zero]
  exact h0 ((Machine.toNat_eq_zero_iff x).mp (eq_of_cast_eq hx h.prime.pos hcast))

theorem FieldLegal.enc_denotes (h : c.FieldLegal) {a : Nat} (ha : a < c.pMod) : c.Denotes (c.enc a) a :=
  ⟨h.enc_lt a, h.dec_enc ha⟩

/-- The inverse as a register value (R139): its Montgomery product with the operand is `ONE`. -/
theorem FieldLegal.mont_enc_inv (h : c.FieldLegal) {x : Fp} (hx : x.toNat < c.pMod) (h0 : x ≠ 0) :
    c.mont x.toNat (c.enc (c.inv (c.dec x))).toNat = 2 ^ 768 % c.pMod := by
  have := Fact.mk h.prime
  have hne := h.cast_dec_ne_zero hx h0
  refine eq_of_cast_eq (Nat.mod_lt _ h.prime.pos) (Nat.mod_lt _ h.prime.pos) ?_
  rw [cast_mont, h.cast_enc, cast_inv h.prime hne, ZMod.natCast_mod, mul_right_comm, ← cast_dec, ← mul_assoc,
    mul_inv_cancel₀ hne, one_mul]

theorem FieldLegal.dec_mul_dec_enc_inv (h : c.FieldLegal) {x : Fp} (hx : x.toNat < c.pMod) (h0 : x ≠ 0) :
    c.dec x * c.dec (c.enc (c.inv (c.dec x))) % c.pMod = 1 := by
  have := Fact.mk h.prime
  have hne := h.cast_dec_ne_zero hx h0
  refine eq_of_cast_eq (Nat.mod_lt _ h.prime.pos) h.prime.one_lt ?_
  have hlt : c.inv (c.dec x) < c.pMod := pow_lt h.prime.pos ..
  rw [h.dec_enc hlt, ZMod.natCast_mod, Nat.cast_mul, cast_inv h.prime hne, mul_inv_cancel₀ hne,
    Nat.cast_one]

theorem enc_zero (c : Config) : c.enc 0 = 0 := by simp [enc]

end Config

namespace Machine

section
variable (s : State) (rd : FpIdx) {ra : FpIdx}

theorem setsFp_fpInv (ha : valid s.cfg (s.getFp ra) = true) :
    SetsFp (.fpInv rd ra) s rd (s.cfg.enc (s.cfg.inv (s.cfg.dec (s.getFp ra)))) := by
  simp only [SetsFp, exec, execFpInv, fpUnary_inDomain s _ rd ra ha]

theorem setsFp_fpExp (rb : Idx) (ha : valid s.cfg (s.getFp ra) = true) :
    SetsFp (.fpExp rd ra rb) s rd (s.cfg.enc (s.cfg.pow (s.cfg.dec (s.getFp ra)) (s.getSc rb).toNat)) := by
  simp only [SetsFp, exec, execFpExp, fpUnary_inDomain s _ rd ra ha]

theorem exec_fpSqrt_square (ha : valid s.cfg (s.getFp ra) = true)
    (hsq : s.cfg.sq (s.cfg.pow (s.cfg.dec (s.getFp ra)) ((s.cfg.pMod + 1) / 4)) = s.cfg.dec (s.getFp ra)) :
    exec (.fpSqrt rd ra) s = .next ((s.setFp rd
      (s.cfg.enc (s.cfg.pow (s.cfg.dec (s.getFp ra)) ((s.cfg.pMod + 1) / 4)))).setB true).counted := by
  simp only [exec, execFpSqrt, ha, if_true, beq_iff_eq.mpr hsq, inDomain_true, State.putFp, complete_eq]

theorem exec_fpSqrt_nonSquare (ha : valid s.cfg (s.getFp ra) = true)
    (hsq : s.cfg.sq (s.cfg.pow (s.cfg.dec (s.getFp ra)) ((s.cfg.pMod + 1) / 4)) ≠ s.cfg.dec (s.getFp ra)) :
    exec (.fpSqrt rd ra) s = .next (((s.setFp rd (s.free 0)).spend 1).setB false).counted := by
  simp only [exec, execFpSqrt, ha, if_true, beq_false_of_ne hsq, inDomain_false, State.putFp, complete_eq]

theorem setsB_fpIsQnr (ha : valid s.cfg (s.getFp ra) = true) : SetsB (.fpIsQnr ra) s
    (s.cfg.pow (s.cfg.dec (s.getFp ra)) ((s.cfg.pMod - 1) / 2) == s.cfg.pMod - 1) := by
  simp only [SetsB, exec, execFpIsQnr, ha, inDomain_true, State.putB, complete_eq]

end

/-- Settles O30: the value is the Montgomery form of the inverse of the residue. -/
theorem fpInverse : Obligations.FpInverse := by
  unfold Obligations.FpInverse
  intro s rd ra h hx
  refine ⟨_, h.enc_lt _, fun h0 => ?zero, fun h0 => ⟨h.mont_enc_inv hx h0, h.dec_mul_dec_enc_inv hx h0⟩,
    setsFp_fpInv s rd (decide_eq_true hx)⟩
  case zero =>
    have hlow : 2 < s.cfg.pMod := by have := h.mod12; omega
    rw [h0, Config.dec_zero, Config.inv_zero hlow, Config.enc_zero]

/-- Settles O31: square-and-multiply is exponentiation. -/
theorem fpPower : Obligations.FpPower := by
  unfold Obligations.FpPower
  intro s rd ra rb h hx
  rw [← Config.pow_eq]
  exact ⟨_, Config.enc_denotes h (Config.pow_lt h.pos ..), setsFp_fpExp s rd rb (decide_eq_true hx)⟩

/-- Settles O32: the test of each command is whether the residue has a root. -/
theorem fpSquareRoot : Obligations.FpSquareRoot := by
  unfold Obligations.FpSquareRoot
  intro s rd ra h hx
  have ha : s.cfg.dec (s.getFp ra) < s.cfg.pMod := Config.dec_lt h.prime.pos _
  have hok : valid s.cfg (s.getFp ra) = true := decide_eq_true hx
  have hqnr := setsB_fpIsQnr s hok
  refine ⟨fun hroot => ?root, fun hnone => ?none⟩
  case root =>
    have hsq := (Config.sq_pow_quarter_eq_iff h ha).mpr hroot
    have hpow := mt (Config.pow_half_eq_iff h ha).mp (not_not.mpr hroot)
    have hlt := Config.pow_lt h.prime.pos (s.cfg.dec (s.getFp ra)) ((s.cfg.pMod + 1) / 4)
    rw [beq_false_of_ne hpow] at hqnr
    rw [← Config.pow_eq]
    refine ⟨⟨_, h.enc_denotes hlt, ?_, exec_fpSqrt_square s rd hok hsq⟩, hqnr⟩
    rw [h.dec_enc hlt]
    exact hsq
  case none =>
    have hno := not_exists.mpr hnone
    have hsq := mt (Config.sq_pow_quarter_eq_iff h ha).mp hno
    rw [beq_iff_eq.mpr ((Config.pow_half_eq_iff h ha).mpr hno)] at hqnr
    exact ⟨exec_fpSqrt_nonSquare s rd hok hsq, hqnr⟩

end Machine
end Sys2Proof
end

section
/-! Lazy results (R134 to R136): a drawn value below `2p` that denotes what the full result denotes, in each tower. -/
namespace Sys2Proof.Machine

variable {c : Config}

theorem isLazyOf_iff {exact' : Nat} {v : Fp} :
    isLazyOf c exact' v = true ↔ v.toNat < 2 * c.pMod ∧ v.toNat % c.pMod = exact' % c.pMod := by
  simp [isLazyOf]

/-- The unreduced value is a member of its own set. -/
theorem isLazyOf_ofNat (h : c.Sized) {exact' : Nat} (hlt : exact' < 2 * c.pMod) :
    isLazyOf c exact' (BitVec.ofNat 768 exact') = true := by
  rw [isLazyOf_iff, h.toNat_ofNat hlt]
  exact ⟨hlt, rfl⟩

/-- A lazy command in domain writes a member of its set. -/
theorem fpLazy_inDomain {s : State} {ok : Bool} {exact' : Nat} (rd : FpIdx) (h : s.cfg.Sized) (hok : ok = true)
    (hlt : exact' < 2 * s.cfg.pMod) : ∃ v : Fp, v.toNat < 2 * s.cfg.pMod ∧
      v.toNat % s.cfg.pMod = exact' % s.cfg.pMod ∧
      fpLazy ok exact' exact' rd s = .next ((s.setFp rd v).spend 1).counted := by
  obtain ⟨hv, hmod⟩ := isLazyOf_iff.mp (draw_mem (isLazyOf_ofNat h hlt) (s.free 0))
  exact ⟨_, hv, hmod, by rw [fpLazy, if_pos hok, complete_eq]⟩

/-! ### Lazy sums in the towers -/

/-- A cubic lazy sum: each component drawn on its own (R176). -/
def lazyAdd3 (c : Config) (a b free : CubicElt Fp) : CubicElt Fp :=
  ⟨lazyAdd c a.c0 b.c0 free.c0, lazyAdd c a.c1 b.c1 free.c1, lazyAdd c a.c2 b.c2 free.c2⟩

/-- A sextic lazy sum (R206). -/
def lazyAdd6 (c : Config) (a b free : SexticElt Fp) : SexticElt Fp :=
  ⟨lazyAdd3 c a.a0 b.a0 free.a0, lazyAdd3 c a.a1 b.a1 free.a1⟩

theorem all3_iff {α : Type} {q : α → Bool} {a : CubicElt α} :
    a.all q = true ↔ q a.c0 = true ∧ q a.c1 = true ∧ q a.c2 = true := by
  simp [CubicElt.all, and_assoc]

theorem all6_iff {α : Type} {q : α → Bool} {a : SexticElt α} :
    a.all q = true ↔ a.a0.all q = true ∧ a.a1.all q = true := by
  simp [SexticElt.all]

theorem lazyAdd_mem (h : c.Sized) {x y : Fp} (hx : valid c x = true) (hy : valid c y = true) (free : Fp) :
    isLazyOf c (x.toNat + y.toNat) (lazyAdd c x y free) = true := by
  rw [valid, decide_eq_true_iff] at hx hy
  exact draw_mem (isLazyOf_ofNat h (by omega)) free

theorem lazyOk_lazyAdd (h : c.Sized) {x y : Fp} (hx : valid c x = true) (hy : valid c y = true) (free : Fp) :
    lazyOk c (lazyAdd c x y free) = true :=
  decide_eq_true (isLazyOf_iff.mp (lazyAdd_mem h hx hy free)).1

/-- A lazy sum denotes what the full sum denotes (R134). -/
theorem dec_lazyAdd (h : c.Sized) {x y : Fp} (hx : valid c x = true) (hy : valid c y = true) (free : Fp) :
    c.dec (lazyAdd c x y free) = c.dec (rawAdd c x y) := by
  refine Config.dec_congr ?_
  rw [(isLazyOf_iff.mp (lazyAdd_mem h hx hy free)).2, rawAdd, h.toNat_ofNat_mod, Nat.mod_mod]

theorem lazyOk_rawAdd (h : c.Sized) (x y : Fp) : lazyOk c (rawAdd c x y) = true := by
  have := Nat.mod_lt (x.toNat + y.toNat) h.pos
  rw [lazyOk, decide_eq_true_iff, rawAdd, h.toNat_ofNat_mod]
  omega

section
variable {a b : CubicElt Fp} (free : CubicElt Fp)

theorem lazyOk_lazyAdd3 (h : c.Sized) (ha : a.all (valid c) = true) (hb : b.all (valid c) = true) :
    (lazyAdd3 c a b free).all (lazyOk c) = true := by
  obtain ⟨ha0, ha1, ha2⟩ := all3_iff.mp ha
  obtain ⟨hb0, hb1, hb2⟩ := all3_iff.mp hb
  exact all3_iff.mpr ⟨lazyOk_lazyAdd h ha0 hb0 _, lazyOk_lazyAdd h ha1 hb1 _, lazyOk_lazyAdd h ha2 hb2 _⟩

theorem dec3_lazyAdd3 (h : c.Sized) (ha : a.all (valid c) = true) (hb : b.all (valid c) = true) :
    c.dec3 (lazyAdd3 c a b free) = c.dec3 (a.zipWith (rawAdd c) b) := by
  obtain ⟨ha0, ha1, ha2⟩ := all3_iff.mp ha
  obtain ⟨hb0, hb1, hb2⟩ := all3_iff.mp hb
  exact Config.cubic_ext (dec_lazyAdd h ha0 hb0 _) (dec_lazyAdd h ha1 hb1 _) (dec_lazyAdd h ha2 hb2 _)

theorem lazyOk_rawAdd3 (h : c.Sized) (a b : CubicElt Fp) : (a.zipWith (rawAdd c) b).all (lazyOk c) = true :=
  all3_iff.mpr ⟨lazyOk_rawAdd h _ _, lazyOk_rawAdd h _ _, lazyOk_rawAdd h _ _⟩

end

section
variable {a b : SexticElt Fp} (free : SexticElt Fp)

theorem lazyOk_lazyAdd6 (h : c.Sized) (ha : a.all (valid c) = true) (hb : b.all (valid c) = true) :
    (lazyAdd6 c a b free).all (lazyOk c) = true := by
  obtain ⟨ha0, ha1⟩ := all6_iff.mp ha
  obtain ⟨hb0, hb1⟩ := all6_iff.mp hb
  exact all6_iff.mpr ⟨lazyOk_lazyAdd3 _ h ha0 hb0, lazyOk_lazyAdd3 _ h ha1 hb1⟩

theorem dec6_lazyAdd6 (h : c.Sized) (ha : a.all (valid c) = true) (hb : b.all (valid c) = true) :
    c.dec6 (lazyAdd6 c a b free) = c.dec6 (a.zipWith (rawAdd c) b) := by
  obtain ⟨ha0, ha1⟩ := all6_iff.mp ha
  obtain ⟨hb0, hb1⟩ := all6_iff.mp hb
  exact Config.sextic_ext (dec3_lazyAdd3 _ h ha0 hb0) (dec3_lazyAdd3 _ h ha1 hb1)

theorem lazyOk_rawAdd6 (h : c.Sized) (a b : SexticElt Fp) : (a.zipWith (rawAdd c) b).all (lazyOk c) = true :=
  all6_iff.mpr ⟨lazyOk_rawAdd3 h _ _, lazyOk_rawAdd3 h _ _⟩

end

/-! ### The commands -/

section
variable {s t : State}

theorem fpLAdd_next (rd : FpIdx) {ra rb : FpIdx} (ha : valid s.cfg (s.getFp ra) = true)
    (hb : valid s.cfg (s.getFp rb) = true) : exec (.fpLAdd rd ra rb) s =
      .next ((s.setFp rd (lazyAdd s.cfg (s.getFp ra) (s.getFp rb) (s.free 0))).spend 1).counted := by
  simp only [exec, execFpLAdd, fpLazy, ha, hb, Bool.and_self, if_true, complete_eq, lazyAdd]

theorem fp3LAdd_next (rd : Idx) {ra rb : Idx} (ha : (s.getFp3 ra).all (valid s.cfg) = true)
    (hb : (s.getFp3 rb).all (valid s.cfg) = true) : exec (.fp3LAdd rd ra rb) s =
      .next ((s.setFp3 rd (lazyAdd3 s.cfg (s.getFp3 ra) (s.getFp3 rb) (s.freeCubic 0))).spend 3).counted := by
  simp only [exec, execFp3LAdd, ha, hb, Bool.and_self, if_true, complete_eq]
  rfl

theorem fp6LAdd_next (rd : Idx) {ra rb : Idx} (ha : (s.getFp6 ra).all (valid s.cfg) = true)
    (hb : (s.getFp6 rb).all (valid s.cfg) = true) : exec (.fp6LAdd rd ra rb) s =
      .next ((s.setFp6 rd (lazyAdd6 s.cfg (s.getFp6 ra) (s.getFp6 rb) s.freeSextic)).spend 6).counted := by
  simp only [exec, execFp6LAdd, ha, hb, Bool.and_self, if_true, complete_eq]
  rfl

theorem setsFp3_fp3Add (rd : Idx) {ra rb : Idx} (ha : (s.getFp3 ra).all (valid s.cfg) = true)
    (hb : (s.getFp3 rb).all (valid s.cfg) = true) :
    SetsFp3 (.fp3Add rd ra rb) s rd ((s.getFp3 ra).zipWith (rawAdd s.cfg) (s.getFp3 rb)) := by
  simp only [SetsFp3, exec, execFp3Add, fp3Binary_inDomain s _ rd ra rb ha hb]

theorem setsFp6_fp6Add (rd : Idx) {ra rb : Idx} (ha : (s.getFp6 ra).all (valid s.cfg) = true)
    (hb : (s.getFp6 rb).all (valid s.cfg) = true) :
    SetsFp6 (.fp6Add rd ra rb) s rd ((s.getFp6 ra).zipWith (rawAdd s.cfg) (s.getFp6 rb)) := by
  simp only [SetsFp6, exec, execFp6Add, fp6Binary_inDomain s _ rd ra rb ha hb]

/-- The product in a register is a function of the residues of the operands (R137). -/
theorem getFp_fpMul {rd ra rb : FpIdx} (h : s.cfg.Sized) (ha : lazyOk s.cfg (s.getFp ra) = true)
    (hb : lazyOk s.cfg (s.getFp rb) = true) (hn : exec (.fpMul rd ra rb) s = .next t) :
    t.getFp rd = s.cfg.enc (s.cfg.mul (s.cfg.dec (s.getFp ra)) (s.cfg.dec (s.getFp rb))) := by
  obtain rfl := Host.Outcome.next.inj ((setsFp_fpMul s rd ha hb).symm.trans hn)
  rw [State.getFp_counted, State.getFp_setFp, if_pos rfl, Config.mul, ← Config.dec_mont h, Config.enc_dec h]
  rw [Config.toNat_mont h]
  exact Config.mont_lt h _ _

/-- The product in Fp3 (R177). -/
theorem getFp3_fp3Mul {rd ra rb : Idx} (ha : (s.getFp3 ra).all (lazyOk s.cfg) = true)
    (hb : (s.getFp3 rb).all (lazyOk s.cfg) = true) (hn : exec (.fp3Mul rd ra rb) s = .next t) :
    t.getFp3 rd = s.cfg.enc3 (s.cfg.mul3 (s.cfg.dec3 (s.getFp3 ra)) (s.cfg.dec3 (s.getFp3 rb))) := by
  simp only [exec, execFp3Mul, fp3Binary_inDomain s _ rd ra rb ha hb] at hn
  obtain rfl := Host.Outcome.next.inj hn
  rw [State.getFp3_counted, State.getFp3_setFp3, if_pos rfl]

/-- The product in Fp6 (R207). -/
theorem getFp6_fp6Mul {rd ra rb : Idx} (ha : (s.getFp6 ra).all (lazyOk s.cfg) = true)
    (hb : (s.getFp6 rb).all (lazyOk s.cfg) = true) (hn : exec (.fp6Mul rd ra rb) s = .next t) :
    t.getFp6 rd = s.cfg.enc6 (s.cfg.mul6 (s.cfg.dec6 (s.getFp6 ra)) (s.cfg.dec6 (s.getFp6 rb))) := by
  simp only [exec, execFp6Mul, fp6Binary_inDomain s _ rd ra rb ha hb] at hn
  obtain rfl := Host.Outcome.next.inj hn
  rw [State.getFp6_counted, State.getFp6_setFp6, if_pos rfl]

end

/-- A lazy sum in Fp, then a product: the product reads residues only (R134, R355). -/
theorem getFp_fpMul_fpLAdd {s t u t' u' : State} {rd ra rb rc : FpIdx} (h : s.cfg.Sized) (hne : rc ≠ rd)
    (ha : valid s.cfg (s.getFp ra) = true) (hb : valid s.cfg (s.getFp rb) = true)
    (hc : lazyOk s.cfg (s.getFp rc) = true) (ht : exec (.fpLAdd rd ra rb) s = .next t)
    (hu : exec (.fpAdd rd ra rb) s = .next u) (ht' : exec (.fpMul rd rd rc) t = .next t')
    (hu' : exec (.fpMul rd rd rc) u = .next u') : t'.getFp rd = u'.getFp rd := by
  obtain rfl := Host.Outcome.next.inj ((fpLAdd_next rd ha hb).symm.trans ht)
  obtain rfl := Host.Outcome.next.inj ((fpBinary_inDomain s rawAdd rd ra rb ha hb).symm.trans hu)
  rw [getFp_fpMul ?_ ?_ ?_ ht', getFp_fpMul ?_ ?_ ?_ hu'] <;>
    simp [State.getFp_setFp, hne.symm, h, hc, lazyOk_lazyAdd h ha hb, lazyOk_rawAdd h, dec_lazyAdd h ha hb]

/-- The same in Fp3 (R176). -/
theorem getFp3_fp3Mul_fp3LAdd {s t u t' u' : State} {rd ra rb rc : Idx} (h : s.cfg.Sized) (hne : rc ≠ rd)
    (ha : (s.getFp3 ra).all (valid s.cfg) = true) (hb : (s.getFp3 rb).all (valid s.cfg) = true)
    (hc : (s.getFp3 rc).all (lazyOk s.cfg) = true) (ht : exec (.fp3LAdd rd ra rb) s = .next t)
    (hu : exec (.fp3Add rd ra rb) s = .next u) (ht' : exec (.fp3Mul rd rd rc) t = .next t')
    (hu' : exec (.fp3Mul rd rd rc) u = .next u') : t'.getFp3 rd = u'.getFp3 rd := by
  obtain rfl := Host.Outcome.next.inj ((fp3LAdd_next rd ha hb).symm.trans ht)
  obtain rfl := Host.Outcome.next.inj ((setsFp3_fp3Add rd ha hb).symm.trans hu)
  rw [getFp3_fp3Mul ?_ ?_ ht', getFp3_fp3Mul ?_ ?_ hu'] <;>
    simp [State.getFp3_setFp3, hne.symm, hc, lazyOk_lazyAdd3 _ h ha hb, lazyOk_rawAdd3 h, dec3_lazyAdd3 _ h ha hb]

/-- The same in Fp6 (R206). -/
theorem getFp6_fp6Mul_fp6LAdd {s t u t' u' : State} {rd ra rb rc : Idx} (h : s.cfg.Sized) (hne : rc ≠ rd)
    (ha : (s.getFp6 ra).all (valid s.cfg) = true) (hb : (s.getFp6 rb).all (valid s.cfg) = true)
    (hc : (s.getFp6 rc).all (lazyOk s.cfg) = true) (ht : exec (.fp6LAdd rd ra rb) s = .next t)
    (hu : exec (.fp6Add rd ra rb) s = .next u) (ht' : exec (.fp6Mul rd rd rc) t = .next t')
    (hu' : exec (.fp6Mul rd rd rc) u = .next u') : t'.getFp6 rd = u'.getFp6 rd := by
  obtain rfl := Host.Outcome.next.inj ((fp6LAdd_next rd ha hb).symm.trans ht)
  obtain rfl := Host.Outcome.next.inj ((setsFp6_fp6Add rd ha hb).symm.trans hu)
  rw [getFp6_fp6Mul ?_ ?_ ht', getFp6_fp6Mul ?_ ?_ hu'] <;>
    simp [State.getFp6_setFp6, hne.symm, hc, lazyOk_lazyAdd6 _ h ha hb, lazyOk_rawAdd6 h, dec6_lazyAdd6 _ h ha hb]

/-- Settles O34: in each tower the product reads residues, and a lazy sum denotes what the full sum denotes. -/
theorem lazyEquivalence : Obligations.LazyEquivalence := by
  unfold Obligations.LazyEquivalence
  exact ⟨fun _ _ _ _ _ _ _ _ _ => getFp_fpMul_fpLAdd, fun _ _ _ _ _ _ _ _ _ => getFp3_fp3Mul_fp3LAdd,
    fun _ _ _ _ _ _ _ _ _ => getFp6_fp6Mul_fp6LAdd⟩

end Sys2Proof.Machine

/-! The function `fpLazy` of the model has the name of the statement, so its theorem stands among the laws. -/
namespace Sys2Proof.Laws

open Machine

/-- Settles O33: the exact value of each command is below `2p`, so what it draws is a member. -/
theorem fpLazy : Obligations.FpLazy := by
  unfold Obligations.FpLazy
  refine ⟨fun s rd ra rb h hx hy => ?_, fun s rd ra h hx => ?double⟩
  case double => exact fpLazy_inDomain rd h (decide_eq_true hx) (by omega)
  have hok : (valid s.cfg (s.getFp ra) && valid s.cfg (s.getFp rb)) = true := by simp [valid, hx, hy]
  refine ⟨?add, ?sub⟩
  case add => exact fpLazy_inDomain rd h hok (by omega)
  case sub =>
    obtain ⟨v, hv, hmod, hnext⟩ := fpLazy_inDomain rd h hok
      (exact' := (s.getFp ra).toNat + (s.cfg.pMod - (s.getFp rb).toNat)) (by omega)
    refine ⟨v, hv, ?_, hnext⟩
    rw [Nat.add_mod, hmod, ← Nat.add_mod, Nat.add_assoc, Nat.sub_add_cancel hy.le, Nat.add_mod_right,
      Nat.mod_eq_of_lt hx]

end Sys2Proof.Laws
end

section
/-! The extension commands that move, load, store and compare raw values (R165 to R171, R195 to R201). -/
namespace Sys2Proof.Machine

/-! ### Constants, moves and selectors -/

theorem fp3Get_not_wellFormed (f : FpIdx) (ra : Idx) {imm8 : BitVec 8} (h : 2 < imm8.toNat) :
    ¬(Instr.fp3Get f ra imm8).WellFormed := by
  simp [Instr.WellFormed, Instr.defect, atMost, Nat.not_le.mpr h]

theorem fp6Get_not_wellFormed (rd ra : Idx) {imm8 : BitVec 8} (h : 1 < imm8.toNat) :
    ¬(Instr.fp6Get rd ra imm8).WellFormed := by
  simp [Instr.WellFormed, Instr.defect, atMost, Nat.not_le.mpr h]

/-- Settles O36: each command completes with the register of its rule written, and the decoder refuses the other
selectors. -/
theorem extensionMoves : Obligations.ExtensionMoves := by
  unfold Obligations.ExtensionMoves
  intro s rd ra rb f x y z
  rw [← one_eq]
  exact ⟨rfl, rfl, rfl, rfl, rfl, rfl, rfl, rfl, rfl, rfl, rfl, rfl, rfl, fun _ => fp3Get_not_wellFormed f ra,
    fun _ => fp6Get_not_wellFormed rd ra⟩

/-! ### The components of a byte string (R61 to R64) -/

theorem be_append (a b : List Byte) : be (a ++ b) = be a * 256 ^ b.length + be b := by
  induction b using List.reverseRecOn with
  | nil => simp [be]
  | append_singleton b x ih =>
    rw [← List.append_assoc, be_concat, ih, be_concat, List.length_append, List.length_singleton, pow_succ]
    ring

/-- The first `n` components of a string, joined, are the value of its first `96 n` bytes. -/
theorem joined_fpAt {str : List Byte} : ∀ {n : Nat}, 96 * n ≤ str.length →
    joined ((List.range n).map (fpAt str)) = be (str.take (96 * n))
  | 0, _ => rfl
  | n + 1, h => by
    have hlen : ((str.drop (96 * n)).take 96).length = 96 := by
      rw [List.length_take, List.length_drop]
      omega
    have hword : (2 : Nat) ^ 768 = 256 ^ 96 := by decide +kernel
    rw [List.range_succ, List.map_append, List.map_singleton, joined_concat, joined_fpAt (by omega), fpAt,
      toNat_be hlen.le, Nat.mul_succ, List.take_add, be_append, hlen, hword]

theorem joined_fpAt_of_length {str : List Byte} {n : Nat} (h : str.length = 96 * n) :
    joined ((List.range n).map (fpAt str)) = be str := by
  rw [joined_fpAt h.ge, ← h, List.take_length]

/-! ### The commands with a byte string -/

section
variable (s : State) (r : Idx)

theorem loadString_length {w : Word} {n : Nat} (f : List Byte → Result)
    (hr : s.dptr.toNat + s.dlen.toNat ≤ s.cfg.dmemSize) (hn : s.dlen.toNat = n) :
    loadString w (· == n) s f = f s.loaded :=
  loadString_inRange f hr (beq_iff_eq.mpr hn)

theorem loadString_otherLength {w : Word} {n : Nat} (f : List Byte → Result)
    (hr : s.dptr.toNat + s.dlen.toNat ≤ s.cfg.dmemSize) (hn : s.dlen.toNat ≠ n) :
    loadString w (· == n) s f = .next (errorEntry .formatError w s) := by
  rw [loadString, if_neg (Nat.not_lt.mpr hr), beq_false_of_ne hn, if_neg Bool.false_ne_true, raise_eq]

theorem exec_fp3Ld : exec (.fp3Ld r) s =
    loadString (encode (.fp3Ld r)) (· == 288) s fun str => complete (s.setFp3 r (cubicAt str 0)) := rfl

theorem exec_fp6Ld : exec (.fp6Ld r) s =
    loadString (encode (.fp6Ld r)) (· == 576) s fun str => complete (s.setFp6 r (sexticAt str)) := rfl

theorem exec_fp3St : exec (.fp3St r) s = storeString (encode (.fp3St r))
    (bytesOf 288 (joined [(s.getFp3 r).c0, (s.getFp3 r).c1, (s.getFp3 r).c2])) s := by
  simp only [exec, execFp3St, cubicBytes_eq, flatMap_fpBytes]
  rfl

theorem exec_fp6St : exec (.fp6St r) s =
    storeString (encode (.fp6St r)) (bytesOf 576 (joined (components (s.getFp6 r)))) s := by
  simp only [exec, execFp6St, sexticBytes_eq, flatMap_fpBytes]
  rfl

end

/-- Settles O37: in range or not, and a load by its length. -/
theorem extensionLoadStore : Obligations.ExtensionLoadStore := by
  unfold Obligations.ExtensionLoadStore
  refine ⟨fun s r => ⟨fun hr hn => ?load3, fun hr hn => ?length3, fun hr => ?loadRange3, fun hr => ?store3,
    fun hr => ?storeRange3⟩, fun s r => ⟨fun hr hn => ?load6, fun hr hn => ?length6, fun hr => ?loadRange6,
    fun hr => ?store6, fun hr => ?storeRange6⟩⟩
  case load3 =>
    refine ⟨cubicAt s.loaded 0, joined_fpAt_of_length (n := 3) ((loaded_length s).trans hn), ?_⟩
    rw [SetsFp3, exec_fp3Ld, loadString_length s _ hr hn, complete_eq]
  case load6 =>
    refine ⟨sexticAt s.loaded, joined_fpAt_of_length (n := 6) ((loaded_length s).trans hn), ?_⟩
    rw [SetsFp6, exec_fp6Ld, loadString_length s _ hr hn, complete_eq]
  case length3 => rw [exec_fp3Ld, loadString_otherLength s _ hr hn]
  case length6 => rw [exec_fp6Ld, loadString_otherLength s _ hr hn]
  case loadRange3 => rw [exec_fp3Ld, loadString_outOfRange _ _ hr]
  case loadRange6 => rw [exec_fp6Ld, loadString_outOfRange _ _ hr]
  case store3 => exact stores_of_storeString (exec_fp3St s r) hr
  case store6 => exact stores_of_storeString (exec_fp6St s r) hr
  case storeRange3 => rw [exec_fp3St, storeString_outOfRange (by rwa [bytesOf_length])]
  case storeRange6 => rw [exec_fp6St, storeString_outOfRange (by rwa [bytesOf_length])]

end Sys2Proof.Machine
end

section
/-! Component-wise results in the towers (R172 to R178, R182, R202 to R206, R212): what holds of an operation on Fp
values holds of each component. -/
namespace Sys2Proof.Machine

variable {c : Config}

/-! ### What the raw operations denote (R130 to R133) -/

theorem denotes_dec {x : Fp} (hx : valid c x = true) : c.Denotes x (c.dec x) := ⟨of_decide_eq_true hx, rfl⟩

theorem denotes_ofNat_mod (h : c.Sized) {n m : Nat} (hn : (n * c.rInv : ZMod c.pMod) = m) :
    c.Denotes (BitVec.ofNat 768 (n % c.pMod)) (m % c.pMod) :=
  ⟨of_decide_eq_true (valid_ofNat_mod h n), Config.dec_eq_mod h (by rw [h.cast_toNat_ofNat_mod, hn])⟩

theorem denotes_rawAdd (h : c.Sized) (x y : Fp) : c.Denotes (rawAdd c x y) ((c.dec x + c.dec y) % c.pMod) :=
  denotes_ofNat_mod h (by push_cast [Config.cast_dec]; ring)

theorem denotes_rawSub (h : c.Sized) (x : Fp) {y : Fp} (hy : valid c y = true) :
    c.Denotes (rawSub c x y) ((c.dec x + c.pMod - c.dec y) % c.pMod) := by
  have hle : y.toNat ≤ c.pMod := (of_decide_eq_true hy).le
  refine denotes_ofNat_mod h ?_
  rw [Nat.add_sub_assoc (Config.dec_lt h.pos y).le]
  push_cast [Config.cast_dec, Nat.cast_sub hle, Nat.cast_sub (Config.dec_lt h.pos y).le]
  simp only [CharP.cast_eq_zero]
  ring

theorem denotes_rawDouble (h : c.Sized) (x : Fp) : c.Denotes (rawDouble c x) (2 * c.dec x % c.pMod) :=
  denotes_ofNat_mod h (by push_cast [Config.cast_dec]; ring)

theorem denotes_rawNeg (h : c.Sized) {x : Fp} (hx : valid c x = true) :
    c.Denotes (rawNeg c x) ((c.pMod - c.dec x) % c.pMod) := by
  have hdec := Config.dec_lt h.pos x
  refine ⟨of_decide_eq_true (valid_rawNeg h x), Config.eq_of_cast_eq (Config.dec_lt h.pos _) (Nat.mod_lt _ h.pos) ?_⟩
  have hsum := congrArg (Nat.cast : Nat → ZMod c.pMod) (dec_rawNeg_add h (of_decide_eq_true hx))
  rw [ZMod.natCast_mod, Nat.cast_add, Nat.cast_zero] at hsum
  rw [ZMod.natCast_mod, Nat.cast_sub hdec.le, ZMod.natCast_self, zero_sub, eq_neg_of_add_eq_zero_left hsum]

/-! ### From values to components -/

section
variable {f : Fp → Fp} {g : Nat → Nat}

theorem denotes3_map (hfg : ∀ x, valid c x = true → c.Denotes (f x) (g (c.dec x))) {a : CubicElt Fp}
    (ha : a.all (valid c) = true) : c.Denotes3 (a.map f) ((c.dec3 a).map g) := by
  obtain ⟨h0, h1, h2⟩ := all3_iff.mp ha
  exact ⟨hfg _ h0, hfg _ h1, hfg _ h2⟩

theorem denotes6_map (hfg : ∀ x, valid c x = true → c.Denotes (f x) (g (c.dec x))) {a : SexticElt Fp}
    (ha : a.all (valid c) = true) : c.Denotes6 (a.map f) ((c.dec6 a).map g) := by
  obtain ⟨h0, h1⟩ := all6_iff.mp ha
  exact ⟨denotes3_map hfg h0, denotes3_map hfg h1⟩

end

section
variable {f : Fp → Fp → Fp} {g : Nat → Nat → Nat}

theorem denotes3_zipWith
    (hfg : ∀ x y, valid c x = true → valid c y = true → c.Denotes (f x y) (g (c.dec x) (c.dec y)))
    {a b : CubicElt Fp} (ha : a.all (valid c) = true) (hb : b.all (valid c) = true) :
    c.Denotes3 (a.zipWith f b) ((c.dec3 a).zipWith g (c.dec3 b)) := by
  obtain ⟨ha0, ha1, ha2⟩ := all3_iff.mp ha
  obtain ⟨hb0, hb1, hb2⟩ := all3_iff.mp hb
  exact ⟨hfg _ _ ha0 hb0, hfg _ _ ha1 hb1, hfg _ _ ha2 hb2⟩

theorem denotes6_zipWith
    (hfg : ∀ x y, valid c x = true → valid c y = true → c.Denotes (f x y) (g (c.dec x) (c.dec y)))
    {a b : SexticElt Fp} (ha : a.all (valid c) = true) (hb : b.all (valid c) = true) :
    c.Denotes6 (a.zipWith f b) ((c.dec6 a).zipWith g (c.dec6 b)) := by
  obtain ⟨ha0, ha1⟩ := all6_iff.mp ha
  obtain ⟨hb0, hb1⟩ := all6_iff.mp hb
  exact ⟨denotes3_zipWith hfg ha0 hb0, denotes3_zipWith hfg ha1 hb1⟩

end

theorem denotes3_dec3 {a : CubicElt Fp} (ha : a.all (valid c) = true) : c.Denotes3 a (c.dec3 a) :=
  denotes3_map (f := id) (g := id) (fun _ => denotes_dec) ha

/-! ### The component-wise commands on valid operands -/

section
variable {i : Instr} {s : State} {rd ra rb : Idx}

section
variable {f : Config → Fp → Fp} {g : Nat → Nat}
  (hfg : ∀ x, valid s.cfg x = true → s.cfg.Denotes (f s.cfg x) (g (s.cfg.dec x)))
include hfg

theorem setsFp3_of_map (hi : exec i s = fp3Unary valid (fun c a => a.map (f c)) rd ra s)
    (ha : (s.getFp3 ra).all (valid s.cfg) = true) :
    ∃ v, s.cfg.Denotes3 v ((s.cfg.dec3 (s.getFp3 ra)).map g) ∧ SetsFp3 i s rd v :=
  ⟨_, denotes3_map hfg ha, hi.trans (fp3Unary_inDomain s _ rd ra ha)⟩

theorem setsFp6_of_map (hi : exec i s = fp6Unary valid (fun c a => a.map (f c)) rd ra s)
    (ha : (s.getFp6 ra).all (valid s.cfg) = true) :
    ∃ v, s.cfg.Denotes6 v ((s.cfg.dec6 (s.getFp6 ra)).map g) ∧ SetsFp6 i s rd v :=
  ⟨_, denotes6_map hfg ha, hi.trans (fp6Unary_inDomain s _ rd ra ha)⟩

end

section
variable {f : Config → Fp → Fp → Fp} {g : Nat → Nat → Nat}
  (hfg : ∀ x y, valid s.cfg x = true → valid s.cfg y = true →
    s.cfg.Denotes (f s.cfg x y) (g (s.cfg.dec x) (s.cfg.dec y)))
include hfg

theorem setsFp3_of_zipWith (hi : exec i s = fp3Binary valid (fun c a b => a.zipWith (f c) b) rd ra rb s)
    (ha : (s.getFp3 ra).all (valid s.cfg) = true) (hb : (s.getFp3 rb).all (valid s.cfg) = true) :
    ∃ v, s.cfg.Denotes3 v ((s.cfg.dec3 (s.getFp3 ra)).zipWith g (s.cfg.dec3 (s.getFp3 rb))) ∧ SetsFp3 i s rd v :=
  ⟨_, denotes3_zipWith hfg ha hb, hi.trans (fp3Binary_inDomain s _ rd ra rb ha hb)⟩

theorem setsFp6_of_zipWith (hi : exec i s = fp6Binary valid (fun c a b => a.zipWith (f c) b) rd ra rb s)
    (ha : (s.getFp6 ra).all (valid s.cfg) = true) (hb : (s.getFp6 rb).all (valid s.cfg) = true) :
    ∃ v, s.cfg.Denotes6 v ((s.cfg.dec6 (s.getFp6 ra)).zipWith g (s.cfg.dec6 (s.getFp6 rb))) ∧ SetsFp6 i s rd v :=
  ⟨_, denotes6_zipWith hfg ha hb, hi.trans (fp6Binary_inDomain s _ rd ra rb ha hb)⟩

end

/-- The conjugate negates the second half (R212). -/
theorem setsFp6_fp6Conj (h : s.cfg.Sized) (ha : (s.getFp6 ra).all (valid s.cfg) = true) :
    ∃ v, s.cfg.Denotes6 v ⟨(s.cfg.dec6 (s.getFp6 ra)).a0,
        (s.cfg.dec6 (s.getFp6 ra)).a1.map fun x => (s.cfg.pMod - x) % s.cfg.pMod⟩ ∧
      SetsFp6 (.fp6Conj rd ra) s rd v := by
  obtain ⟨h0, h1⟩ := all6_iff.mp ha
  refine ⟨⟨(s.getFp6 ra).a0, (s.getFp6 ra).a1.map (rawNeg s.cfg)⟩,
    ⟨denotes3_dec3 h0, denotes3_map (fun _ => denotes_rawNeg h) h1⟩, ?_⟩
  simp only [SetsFp6, exec, execFp6Conj, fp6Unary_inDomain s _ rd ra ha]

end

/-- Settles O38: each command applies a raw operation to every component, and the raw operations denote the operations
on residues. -/
theorem extensionAdditive : Obligations.ExtensionAdditive := by
  unfold Obligations.ExtensionAdditive
  refine ⟨fun s rd ra rb h ha hb => ⟨?add3, ?sub3⟩, fun s rd ra h ha => ⟨?double3, ?neg3⟩,
    fun s rd ra rb h ha hb => ⟨?add6, ?sub6⟩, fun s rd ra h ha => ⟨?double6, ?neg6, setsFp6_fp6Conj h ha⟩⟩
  case add3 => exact setsFp3_of_zipWith (fun x y _ _ => denotes_rawAdd h x y) rfl ha hb
  case add6 => exact setsFp6_of_zipWith (fun x y _ _ => denotes_rawAdd h x y) rfl ha hb
  case sub3 => exact setsFp3_of_zipWith (fun x _ _ hy => denotes_rawSub h x hy) rfl ha hb
  case sub6 => exact setsFp6_of_zipWith (fun x _ _ hy => denotes_rawSub h x hy) rfl ha hb
  case double3 => exact setsFp3_of_map (fun x _ => denotes_rawDouble h x) rfl ha
  case double6 => exact setsFp6_of_map (fun x _ => denotes_rawDouble h x) rfl ha
  case neg3 => exact setsFp3_of_map (fun _ => denotes_rawNeg h) rfl ha
  case neg6 => exact setsFp6_of_map (fun _ => denotes_rawNeg h) rfl ha

/-! ### Lazy sums (R176, R206) -/

theorem isLazyOf_lazyAdd3 (h : c.Sized) {a b : CubicElt Fp} (ha : a.all (valid c) = true)
    (hb : b.all (valid c) = true) (free : CubicElt Fp) :
    isLazyOf c (a.c0.toNat + b.c0.toNat) (lazyAdd3 c a b free).c0 = true ∧
    isLazyOf c (a.c1.toNat + b.c1.toNat) (lazyAdd3 c a b free).c1 = true ∧
    isLazyOf c (a.c2.toNat + b.c2.toNat) (lazyAdd3 c a b free).c2 = true := by
  obtain ⟨ha0, ha1, ha2⟩ := all3_iff.mp ha
  obtain ⟨hb0, hb1, hb2⟩ := all3_iff.mp hb
  exact ⟨lazyAdd_mem h ha0 hb0 _, lazyAdd_mem h ha1 hb1 _, lazyAdd_mem h ha2 hb2 _⟩

/-- Settles O39: each component is a member of the set of a lazy sum of Fp values. -/
theorem extensionLazy : Obligations.ExtensionLazy := by
  unfold Obligations.ExtensionLazy
  simp only [← isLazyOf_iff]
  refine ⟨fun s rd ra rb h ha hb => ⟨_, isLazyOf_lazyAdd3 h ha hb _, fp3LAdd_next rd ha hb⟩,
    fun s rd ra rb h ha hb => ?_⟩
  obtain ⟨ha0, ha1⟩ := all6_iff.mp ha
  obtain ⟨hb0, hb1⟩ := all6_iff.mp hb
  exact ⟨_, isLazyOf_lazyAdd3 h ha0 hb0 _, isLazyOf_lazyAdd3 h ha1 hb1 _, fp6LAdd_next rd ha hb⟩

end Sys2Proof.Machine
end

section
/-! The towers as one ring: `F_p[w]` with `w⁶ = β`, in which `v = w²` (R160, R190). The value of an element of Fp3 or
Fp6 is injective on residues and takes products to products, so that powers, inverses and the Frobenius maps can be
computed in a ring. -/
namespace Sys2Proof.Config

open Polynomial

variable {c : Config}

/-! ### Reduced components -/

/-- Every component is a residue (R13). -/
def Reduced3 (c : Config) (a : CubicElt Nat) : Prop := a.c0 < c.pMod ∧ a.c1 < c.pMod ∧ a.c2 < c.pMod

def Reduced6 (c : Config) (a : SexticElt Nat) : Prop := c.Reduced3 a.a0 ∧ c.Reduced3 a.a1

theorem reduced3_zero3 (h : 0 < c.pMod) : c.Reduced3 zero3 := ⟨h, h, h⟩

theorem reduced3_one3 (h : 0 < c.pMod) : c.Reduced3 c.one3 := ⟨Nat.mod_lt _ h, h, h⟩

theorem reduced6_one6 (h : 0 < c.pMod) : c.Reduced6 c.one6 := ⟨reduced3_one3 h, reduced3_zero3 h⟩

theorem reduced3_dec3 (h : 0 < c.pMod) (a : CubicElt Fp) : c.Reduced3 (c.dec3 a) :=
  ⟨dec_lt h _, dec_lt h _, dec_lt h _⟩

theorem reduced6_dec6 (h : 0 < c.pMod) (a : SexticElt Fp) : c.Reduced6 (c.dec6 a) :=
  ⟨reduced3_dec3 h _, reduced3_dec3 h _⟩

theorem reduced3_add3 (h : 0 < c.pMod) (a b : CubicElt Nat) : c.Reduced3 (c.add3 a b) :=
  ⟨add_lt h .., add_lt h .., add_lt h ..⟩

theorem reduced3_sub3 (h : 0 < c.pMod) (a b : CubicElt Nat) : c.Reduced3 (c.sub3 a b) :=
  ⟨sub_lt h .., sub_lt h .., sub_lt h ..⟩

theorem reduced3_neg3 (h : 0 < c.pMod) (a : CubicElt Nat) : c.Reduced3 (c.neg3 a) :=
  ⟨neg_lt h _, neg_lt h _, neg_lt h _⟩

theorem reduced3_scale3 (h : 0 < c.pMod) (k : Nat) (a : CubicElt Nat) : c.Reduced3 (c.scale3 k a) :=
  ⟨mul_lt h .., mul_lt h .., mul_lt h ..⟩

theorem reduced3_mul3 (h : 0 < c.pMod) (a b : CubicElt Nat) : c.Reduced3 (c.mul3 a b) :=
  ⟨add_lt h .., add_lt h .., add_lt h ..⟩

theorem reduced6_mul6 (h : 0 < c.pMod) (a b : SexticElt Nat) : c.Reduced6 (c.mul6 a b) :=
  ⟨reduced3_add3 h .., reduced3_add3 h ..⟩

theorem reduced3_power3 (h : 0 < c.pMod) (a : CubicElt Nat) : ∀ e, c.Reduced3 (c.power3 a e)
  | 0 => reduced3_one3 h
  | _ + 1 => reduced3_mul3 h ..

theorem reduced6_power6 (h : 0 < c.pMod) (a : SexticElt Nat) : ∀ e, c.Reduced6 (c.power6 a e)
  | 0 => reduced6_one6 h
  | _ + 1 => reduced6_mul6 h ..

/-! ### The ring -/

/-- `F_p[w]` with `w⁶ = β`. -/
abbrev Tower (c : Config) : Type := AdjoinRoot (X ^ 6 - C (c.beta : ZMod c.pMod))

/-- `w` (R190). -/
noncomputable def towerW (c : Config) : c.Tower := AdjoinRoot.root _

/-- `c0 + c1·v + c2·v²` with `v = w²`. -/
noncomputable def value3 (c : Config) (a : CubicElt Nat) : c.Tower := a.c0 + a.c1 * c.towerW ^ 2 + a.c2 * c.towerW ^ 4

/-- `a0 + a1·w`. -/
noncomputable def value6 (c : Config) (a : SexticElt Nat) : c.Tower := c.value3 a.a0 + c.value3 a.a1 * c.towerW

theorem tower_cast_eq {a b : Nat} (h : (a : ZMod c.pMod) = b) : (a : c.Tower) = b := by
  rw [← map_natCast (algebraMap (ZMod c.pMod) c.Tower), h, map_natCast]

theorem towerW_pow_six : c.towerW ^ 6 = c.beta := by
  have h := AdjoinRoot.mk_self (f := (X ^ 6 - C (c.beta : ZMod c.pMod)))
  rw [map_sub, map_pow, AdjoinRoot.mk_X, AdjoinRoot.mk_C, map_natCast, sub_eq_zero] at h
  exact h

@[simp] theorem tower_cast_add (a b : Nat) : (c.add a b : c.Tower) = a + b := by
  rw [← Nat.cast_add]
  exact tower_cast_eq (by rw [cast_add, Nat.cast_add])

@[simp] theorem tower_cast_mul (a b : Nat) : (c.mul a b : c.Tower) = a * b := by
  rw [← Nat.cast_mul]
  exact tower_cast_eq (by rw [cast_mul, Nat.cast_mul])

theorem value3_mul3 (a b : CubicElt Nat) : c.value3 (c.mul3 a b) = c.value3 a * c.value3 b := by
  simp only [value3, mul3, tower_cast_add, tower_cast_mul, ← towerW_pow_six]
  ring

theorem value3_one3 : c.value3 c.one3 = 1 := by
  have h : ((1 % c.pMod : Nat) : c.Tower) = (1 : Nat) := tower_cast_eq (ZMod.natCast_mod 1 _)
  simp [value3, one3, h]

theorem value3_zero3 : c.value3 zero3 = 0 := by simp [value3, zero3]

theorem value3_add3 (a b : CubicElt Nat) : c.value3 (c.add3 a b) = c.value3 a + c.value3 b := by
  simp only [value3, add3, CubicElt.zipWith, tower_cast_add]
  ring

theorem value3_mulXi (a : CubicElt Nat) : c.value3 (c.mulXi a) = c.towerW ^ 2 * c.value3 a := by
  simp only [value3, mulXi, tower_cast_mul, ← towerW_pow_six]
  ring

theorem value6_mul6 (a b : SexticElt Nat) : c.value6 (c.mul6 a b) = c.value6 a * c.value6 b := by
  simp only [value6, mul6, value3_add3, value3_mulXi, value3_mul3]
  ring

theorem value6_one6 : c.value6 c.one6 = 1 := by
  rw [value6, one6, value3_one3, value3_zero3, zero_mul, add_zero]

/-! ### The value is injective on residues -/

/-- The coefficients of the powers of `w`. -/
def coordinates (c : Config) (a : SexticElt Nat) : Fin 6 → ZMod c.pMod :=
  ![a.a0.c0, a.a1.c0, a.a0.c1, a.a1.c1, a.a0.c2, a.a1.c2]

theorem mk_coordinates (a : SexticElt Nat) :
    AdjoinRoot.mk _ (∑ i : Fin 6, C (c.coordinates a i) * X ^ i.val) = c.value6 a := by
  simp only [coordinates, Fin.sum_univ_six, Matrix.cons_val_zero, Matrix.cons_val_one, Matrix.cons_val, map_natCast,
    Fin.coe_ofNat_eq_mod, Nat.zero_mod, Nat.one_mod, Nat.reduceMod, Nat.mod_succ, pow_zero, pow_one, mul_one, map_add,
    map_mul, map_pow, AdjoinRoot.mk_X, value6, value3, towerW]
  ring

/-- A multiple of a polynomial of degree six has no degree below six unless it is zero. -/
theorem coordinates_eq_of_value6 (hp : 1 < c.pMod) {a b : SexticElt Nat} (h : c.value6 a = c.value6 b) :
    c.coordinates a = c.coordinates b := by
  have := Fact.mk hp
  rw [← mk_coordinates, ← mk_coordinates, AdjoinRoot.mk_eq_mk, ← Finset.sum_sub_distrib] at h
  simp only [← sub_mul, ← C_sub] at h
  have hzero : ∑ i : Fin 6, C (c.coordinates a i - c.coordinates b i) * X ^ i.val = 0 := by
    by_contra hne
    refine (monic_X_pow_sub_C (c.beta : ZMod c.pMod) (by decide)).not_dvd_of_degree_lt hne ?_ h
    rw [degree_X_pow_sub_C (by decide)]
    exact degree_sum_fin_lt _
  funext i
  have hcoeff := congrArg (coeff · i.val) hzero
  simp only [finsetSum_coeff, coeff_C_mul_X_pow, Fin.val_inj, Finset.sum_ite_eq, Finset.mem_univ, if_true,
    coeff_zero, sub_eq_zero] at hcoeff
  exact hcoeff

theorem value6_injective (hp : 1 < c.pMod) {a b : SexticElt Nat} (ha : c.Reduced6 a) (hb : c.Reduced6 b)
    (h : c.value6 a = c.value6 b) : a = b := by
  obtain ⟨⟨ha0, ha1, ha2⟩, ha3, ha4, ha5⟩ := ha
  obtain ⟨⟨hb0, hb1, hb2⟩, hb3, hb4, hb5⟩ := hb
  have hco := congrFun (coordinates_eq_of_value6 hp h)
  exact sextic_ext
    (cubic_ext (eq_of_cast_eq ha0 hb0 (hco 0)) (eq_of_cast_eq ha1 hb1 (hco 2)) (eq_of_cast_eq ha2 hb2 (hco 4)))
    (cubic_ext (eq_of_cast_eq ha3 hb3 (hco 1)) (eq_of_cast_eq ha4 hb4 (hco 3)) (eq_of_cast_eq ha5 hb5 (hco 5)))

theorem value6_ofCubic (a : CubicElt Nat) : c.value6 ⟨a, zero3⟩ = c.value3 a := by
  rw [value6, value3_zero3, zero_mul, add_zero]

theorem value3_injective (hp : 1 < c.pMod) {a b : CubicElt Nat} (ha : c.Reduced3 a) (hb : c.Reduced3 b)
    (h : c.value3 a = c.value3 b) : a = b := by
  rw [← value6_ofCubic, ← value6_ofCubic] at h
  have hz := reduced3_zero3 (Nat.zero_lt_of_lt hp)
  exact congrArg SexticElt.a0 (value6_injective hp ⟨ha, hz⟩ ⟨hb, hz⟩ h)

/-! ### Powers (R180, R211) -/

theorem value3_power3 (a : CubicElt Nat) (e : Nat) : c.value3 (c.power3 a e) = c.value3 a ^ e := by
  induction e with
  | zero => rw [power3, value3_one3, pow_zero]
  | succ e ih => rw [power3, value3_mul3, ih, pow_succ (c.value3 a)]

theorem value6_power6 (a : SexticElt Nat) (e : Nat) : c.value6 (c.power6 a e) = c.value6 a ^ e := by
  induction e with
  | zero => rw [power6, value6_one6, pow_zero]
  | succ e ih => rw [power6, value6_mul6, ih, pow_succ (c.value6 a)]

/-- Square-and-multiply computes the product of `e` factors. -/
theorem pow3_eq_power3 (hp : 1 < c.pMod) (a : CubicElt Nat) (e : Nat) : c.pow3 a e = c.power3 a e := by
  have hpos := Nat.zero_lt_of_lt hp
  refine ladder_eq (c.power3 a) rfl (fun n => ?_) (fun _ => rfl) e
  refine value3_injective hp (reduced3_mul3 hpos ..) (reduced3_power3 hpos ..) ?_
  rw [value3_mul3, value3_power3, value3_power3, two_mul, pow_add]

theorem pow6_eq_power6 (hp : 1 < c.pMod) (a : SexticElt Nat) (e : Nat) : c.pow6 a e = c.power6 a e := by
  have hpos := Nat.zero_lt_of_lt hp
  refine ladder_eq (c.power6 a) rfl (fun n => ?_) (fun _ => rfl) e
  refine value6_injective hp (reduced6_mul6 hpos ..) (reduced6_power6 hpos ..) ?_
  rw [sq6, value6_mul6, value6_power6, value6_power6, two_mul, pow_add]

end Sys2Proof.Config
end

section
/-! The products, powers and predicates of the towers (R177, R178, R180, R182 to R185, R209, R211, R216 to R219). -/
namespace Sys2Proof.Machine

variable {c : Config}

/-! ### Residues in Montgomery form, component by component -/

section
variable (henc : ∀ {a : Nat}, a < c.pMod → c.Denotes (c.enc a) a)
include henc

theorem denotes3_enc3 {a : CubicElt Nat} (ha : c.Reduced3 a) : c.Denotes3 (c.enc3 a) a := by
  obtain ⟨h0, h1, h2⟩ := ha
  exact ⟨henc h0, henc h1, henc h2⟩

theorem denotes6_enc6 {a : SexticElt Nat} (ha : c.Reduced6 a) : c.Denotes6 (c.enc6 a) a := by
  obtain ⟨h0, h1⟩ := ha
  exact ⟨denotes3_enc3 henc h0, denotes3_enc3 henc h1⟩

end

/-! ### Products in Fp3 -/

/-- The product modulo `v³ = −4` written out (R177). -/
theorem mul3_eq (h : c.Sized) (a b : CubicElt Nat) : c.mul3 a b =
    ⟨(a.c0 * b.c0 + (c.pMod - 4) * (a.c1 * b.c2 + a.c2 * b.c1)) % c.pMod,
     (a.c0 * b.c1 + a.c1 * b.c0 + (c.pMod - 4) * (a.c2 * b.c2)) % c.pMod,
     (a.c0 * b.c2 + a.c1 * b.c1 + a.c2 * b.c0) % c.pMod⟩ := by
  refine Config.cubic_ext ?_ ?_ ?_ <;>
    simp only [Config.mul3, Config.beta_eq h.low, Config.add, Config.mul, Nat.add_mod, Nat.mul_mod, Nat.mod_mod]

section
variable {s : State} {rd ra rb : Idx}

theorem setsFp3_fp3Mul (ha : (s.getFp3 ra).all (lazyOk s.cfg) = true) (hb : (s.getFp3 rb).all (lazyOk s.cfg) = true) :
    SetsFp3 (.fp3Mul rd ra rb) s rd
      (s.cfg.enc3 (s.cfg.mul3 (s.cfg.dec3 (s.getFp3 ra)) (s.cfg.dec3 (s.getFp3 rb)))) := by
  simp only [SetsFp3, exec, execFp3Mul, fp3Binary_inDomain s _ rd ra rb ha hb]

theorem setsFp3_fp3Square (ha : (s.getFp3 ra).all (lazyOk s.cfg) = true) : SetsFp3 (.fp3Square rd ra) s rd
    (s.cfg.enc3 (s.cfg.mul3 (s.cfg.dec3 (s.getFp3 ra)) (s.cfg.dec3 (s.getFp3 ra)))) := by
  simp only [SetsFp3, exec, execFp3Square, fp3Unary_inDomain s _ rd ra ha]

theorem setsFp3_fp3Mul0 (ha : (s.getFp3 ra).all (lazyOk s.cfg) = true) (hb : lazyOk s.cfg (s.getFp3 rb).c0 = true) :
    SetsFp3 (.fp3Mul0 rd ra rb) s rd
      (s.cfg.enc3 (s.cfg.scale3 (s.cfg.dec (s.getFp3 rb).c0) (s.cfg.dec3 (s.getFp3 ra)))) := by
  simp only [SetsFp3, exec, execFp3Mul0, ha, hb, Bool.and_self, inDomain_true, State.putFp3, complete_eq]

end

/-- Settles O40: the products over residues, in Montgomery form. -/
theorem fp3Products : Obligations.Fp3Products := by
  unfold Obligations.Fp3Products
  refine ⟨fun s rd ra rb h ha hb => ?mul, fun s rd ra _ ha => ?square, fun s rd ra rb h ha hb => ?scale⟩
  case mul =>
    simp only [← mul3_eq h]
    exact ⟨_, denotes3_enc3 (Config.enc_denotes h) (Config.reduced3_mul3 h.pos ..), setsFp3_fp3Mul ha hb⟩
  case square => exact (setsFp3_fp3Square ha).trans (setsFp3_fp3Mul ha ha).symm
  case scale =>
    exact ⟨_, denotes3_enc3 (Config.enc_denotes h) (Config.reduced3_scale3 h.pos ..), setsFp3_fp3Mul0 ha hb⟩

/-! ### Powers -/

section
variable {s : State} {rd ra : Idx}

theorem setsFp3_fp3Exp (hp : 1 < s.cfg.pMod) (rb : Idx) (ha : (s.getFp3 ra).all (valid s.cfg) = true) :
    SetsFp3 (.fp3Exp rd ra rb) s rd
      (s.cfg.enc3 (s.cfg.power3 (s.cfg.dec3 (s.getFp3 ra)) (s.getSc rb).toNat)) := by
  simp only [SetsFp3, exec, execFp3Exp, fp3Unary_inDomain s _ rd ra ha, Config.pow3_eq_power3 hp]

theorem setsFp6_fp6Exp (hp : 1 < s.cfg.pMod) (rb : Idx) (ha : (s.getFp6 ra).all (valid s.cfg) = true) :
    SetsFp6 (.fp6Exp rd ra rb) s rd
      (s.cfg.enc6 (s.cfg.power6 (s.cfg.dec6 (s.getFp6 ra)) (s.getSc rb).toNat)) := by
  simp only [SetsFp6, exec, execFp6Exp, fp6Unary_inDomain s _ rd ra ha, Config.pow6_eq_power6 hp]

theorem isCyclotomic_iff (hp : 1 < c.pMod) (a : SexticElt Nat) :
    c.isCyclotomic a = true ↔ c.power6 a (c.pMod ^ 2 - c.pMod + 1) = c.one6 := by
  rw [Config.isCyclotomic, beq_iff_eq, Config.pow6_eq_power6 hp, Nat.pow_two]

theorem setsFp6_fp6CycSq (ha : (s.getFp6 ra).all (valid s.cfg) = true)
    (hcyc : s.cfg.isCyclotomic (s.cfg.dec6 (s.getFp6 ra)) = true) : SetsFp6 (.fp6CycSq rd ra) s rd
      (s.cfg.enc6 (s.cfg.mul6 (s.cfg.dec6 (s.getFp6 ra)) (s.cfg.dec6 (s.getFp6 ra)))) := by
  simp only [SetsFp6, exec, execFp6CycSq, ha, hcyc, Bool.and_self, inDomain_true, State.putFp6, complete_eq,
    Config.sq6]

end

/-- Settles O43: square-and-multiply is the product of as many factors, in either tower. -/
theorem extensionPower : Obligations.ExtensionPower := by
  unfold Obligations.ExtensionPower
  refine ⟨fun s rd ra rb h ha => ?exp3, fun s rd ra rb h ha => ?exp6, fun s rd ra h ha hcyc => ?cycSq⟩
  case exp3 =>
    exact ⟨_, denotes3_enc3 (Config.enc_denotes h) (Config.reduced3_power3 h.pos ..), setsFp3_fp3Exp h.one_lt rb ha⟩
  case exp6 =>
    exact ⟨_, denotes6_enc6 (Config.enc_denotes h) (Config.reduced6_power6 h.pos ..), setsFp6_fp6Exp h.one_lt rb ha⟩
  case cycSq =>
    exact ⟨_, denotes6_enc6 (Config.enc_denotes h) (Config.reduced6_mul6 h.pos ..),
      setsFp6_fp6CycSq ha ((isCyclotomic_iff h.one_lt _).mpr hcyc)⟩

/-! ### Predicates -/

theorem setsB_fp6IsValid {s : State} {ra : Idx} (ha : (s.getFp6 ra).all (valid s.cfg) = true) :
    SetsB (.fp6IsValid ra) s (s.cfg.pow6 (s.cfg.dec6 (s.getFp6 ra)) s.cfg.rOrd == s.cfg.one6) := by
  simp only [SetsB, exec, execFp6IsValid, ha, inDomain_true, State.putB, complete_eq]

/-- Settles O46: the comparisons are decided on the raw values, and FP6.ISVALID by the power of R219. -/
theorem extensionPredicates : Obligations.ExtensionPredicates := by
  unfold Obligations.ExtensionPredicates
  refine ⟨fun s ra rb => ?_, fun s ra h ha => ?_⟩
  · rw [← one_eq]
    exact ⟨rfl, rfl, rfl, rfl, rfl, rfl⟩
  · rw [← Config.pow6_eq_power6 h.one_lt]
    exact setsB_fp6IsValid ha

end Sys2Proof.Machine
end

section
/-! Inverses in the towers (R179, R210): the norm of an element vanishes at zero only, since `β` is no cube and no
square. -/
namespace Sys2Proof.Config

variable {c : Config}

/-! ### Differences and multiples in the tower -/

theorem tower_cast_sub {a b : Nat} (hb : b ≤ c.pMod) : (c.sub a b : c.Tower) = a - b := by
  simpa only [map_natCast, map_sub] using congrArg (algebraMap (ZMod c.pMod) c.Tower) (cast_sub (a := a) hb)

theorem tower_cast_neg {a : Nat} (ha : a ≤ c.pMod) : (c.neg a : c.Tower) = -a := by
  simpa only [map_natCast, map_neg] using congrArg (algebraMap (ZMod c.pMod) c.Tower) (cast_neg ha)

theorem value3_sub3 (a : CubicElt Nat) {b : CubicElt Nat} (hb : c.Reduced3 b) :
    c.value3 (c.sub3 a b) = c.value3 a - c.value3 b := by
  obtain ⟨h0, h1, h2⟩ := hb
  simp only [value3, sub3, CubicElt.zipWith, tower_cast_sub h0.le, tower_cast_sub h1.le, tower_cast_sub h2.le]
  ring

theorem value3_neg3 {a : CubicElt Nat} (ha : c.Reduced3 a) : c.value3 (c.neg3 a) = -c.value3 a := by
  obtain ⟨h0, h1, h2⟩ := ha
  simp only [value3, neg3, CubicElt.map, tower_cast_neg h0.le, tower_cast_neg h1.le, tower_cast_neg h2.le]
  ring

theorem value3_scale3 (k : Nat) (a : CubicElt Nat) : c.value3 (c.scale3 k a) = c.value3 a * k := by
  simp only [value3, scale3, CubicElt.map, tower_cast_mul]
  ring

theorem reduced3_mulXi (h : 0 < c.pMod) {a : CubicElt Nat} (ha : c.Reduced3 a) : c.Reduced3 (c.mulXi a) :=
  ⟨mul_lt h .., ha.1, ha.2.1⟩

/-! ### The norm of Fp3 -/

/-- The three components of R179 before the division by the norm. -/
def adjugate3 (c : Config) (a : CubicElt Nat) : CubicElt Nat :=
  ⟨c.sub (c.sq a.c0) (c.mul c.beta (c.mul a.c1 a.c2)), c.sub (c.mul c.beta (c.sq a.c2)) (c.mul a.c0 a.c1),
   c.sub (c.sq a.c1) (c.mul a.c0 a.c2)⟩

/-- The norm of R179. -/
def norm3 (c : Config) (a : CubicElt Nat) : Nat :=
  let t := c.adjugate3 a
  c.add (c.mul a.c0 t.c0) (c.mul c.beta (c.add (c.mul a.c2 t.c1) (c.mul a.c1 t.c2)))

theorem inv3_eq (a : CubicElt Nat) : c.inv3 a = c.scale3 (c.inv (c.norm3 a)) (c.adjugate3 a) := rfl

theorem cast_adjugate3 (h : 0 < c.pMod) (a : CubicElt Nat) :
    ((c.adjugate3 a).c0 : ZMod c.pMod) = a.c0 ^ 2 - c.beta * (a.c1 * a.c2) ∧
    ((c.adjugate3 a).c1 : ZMod c.pMod) = c.beta * a.c2 ^ 2 - a.c0 * a.c1 ∧
    ((c.adjugate3 a).c2 : ZMod c.pMod) = a.c1 ^ 2 - a.c0 * a.c2 := by
  simp only [adjugate3, cast_sub (mul_lt h _ _).le, cast_mul, cast_sq, pow_two, and_self]

theorem reduced3_adjugate3 (h : 0 < c.pMod) (a : CubicElt Nat) : c.Reduced3 (c.adjugate3 a) :=
  ⟨sub_lt h .., sub_lt h .., sub_lt h ..⟩

theorem cast_norm3 (h : 0 < c.pMod) (a : CubicElt Nat) : (c.norm3 a : ZMod c.pMod) =
    a.c0 ^ 3 + c.beta * a.c1 ^ 3 + c.beta ^ 2 * a.c2 ^ 3 - 3 * c.beta * a.c0 * a.c1 * a.c2 := by
  obtain ⟨h0, h1, h2⟩ := cast_adjugate3 h a
  simp only [norm3, cast_add, cast_mul, h0, h1, h2]
  ring

/-- The norm is the product with the adjugate. -/
theorem value3_mul_adjugate3 (h : 0 < c.pMod) (a : CubicElt Nat) :
    c.value3 a * c.value3 (c.adjugate3 a) = c.norm3 a := by
  simp only [value3, norm3, adjugate3, tower_cast_add, tower_cast_sub (mul_lt h _ _).le, tower_cast_mul, sq,
    ← towerW_pow_six]
  ring

theorem cast_norm3_mul3 (h : 0 < c.pMod) (a b : CubicElt Nat) :
    (c.norm3 (c.mul3 a b) : ZMod c.pMod) = c.norm3 a * c.norm3 b := by
  simp only [cast_norm3 h, mul3, cast_add, cast_mul]
  ring

theorem cast_norm3_mulXi (h : 0 < c.pMod) (a : CubicElt Nat) :
    (c.norm3 (c.mulXi a) : ZMod c.pMod) = c.beta * c.norm3 a := by
  simp only [cast_norm3 h, mulXi, cast_mul]
  ring

/-! ### Where the norm vanishes -/

theorem FieldLegal.cube_ne (h : c.FieldLegal) (x : ZMod c.pMod) : x ^ 3 ≠ c.beta := by
  have : NeZero c.pMod := ⟨h.prime.ne_zero⟩
  intro e
  refine h.nonCube x.val (eq_of_cast_eq (Nat.mod_lt _ h.prime.pos) (neg_lt h.prime.pos _) ?_)
  rw [ZMod.natCast_mod, Nat.cast_pow, ZMod.natCast_zmod_val, e]

theorem FieldLegal.cast_beta_ne_zero (h : c.FieldLegal) : (c.beta : ZMod c.pMod) ≠ 0 := fun e =>
  h.cube_ne 0 (by rw [e, zero_pow (by decide)])

/-- An element whose adjugate vanishes is zero: `a0³ = β·a1³`, and `β` is no cube. -/
theorem eq_zero3_of_adjugate3 (h : c.FieldLegal) {a : CubicElt Nat} (ha : c.Reduced3 a)
    (hadj : c.adjugate3 a = zero3) : a = zero3 := by
  have := Fact.mk h.prime
  have hpos := h.prime.pos
  obtain ⟨h0, h1, h2⟩ := cast_adjugate3 hpos a
  rw [hadj] at h0 h1 h2
  simp only [zero3, Nat.cast_zero] at h0 h1 h2
  have ha1 : (a.c1 : ZMod c.pMod) = 0 := by
    by_contra hne
    refine h.cube_ne (a.c0 / a.c1) ?_
    rw [div_pow, div_eq_iff (pow_ne_zero 3 hne)]
    linear_combination -(a.c0 : ZMod c.pMod) * h0 + c.beta * a.c1 * h2
  have ha0 : (a.c0 : ZMod c.pMod) = 0 := by
    rw [ha1, zero_mul, mul_zero, sub_zero] at h0
    exact pow_eq_zero_iff (by decide) |>.mp h0.symm
  have ha2 : (a.c2 : ZMod c.pMod) = 0 := by
    rw [ha0, zero_mul, sub_zero] at h1
    exact pow_eq_zero_iff (by decide) |>.mp ((mul_eq_zero.mp h1.symm).resolve_left h.cast_beta_ne_zero)
  obtain ⟨hl0, hl1, hl2⟩ := ha
  exact cubic_ext (eq_of_cast_eq hl0 hpos (ha0.trans Nat.cast_zero.symm))
    (eq_of_cast_eq hl1 hpos (ha1.trans Nat.cast_zero.symm)) (eq_of_cast_eq hl2 hpos (ha2.trans Nat.cast_zero.symm))

/-- The adjugate of the adjugate is the product with the norm. -/
theorem adjugate3_adjugate3 (h : 0 < c.pMod) (a : CubicElt Nat) :
    c.adjugate3 (c.adjugate3 a) = c.scale3 (c.norm3 a) a := by
  obtain ⟨h0, h1, h2⟩ := cast_adjugate3 h a
  obtain ⟨g0, g1, g2⟩ := cast_adjugate3 h (c.adjugate3 a)
  obtain ⟨hl0, hl1, hl2⟩ := reduced3_adjugate3 h (c.adjugate3 a)
  refine cubic_ext (eq_of_cast_eq hl0 (mul_lt h ..) ?_) (eq_of_cast_eq hl1 (mul_lt h ..) ?_)
    (eq_of_cast_eq hl2 (mul_lt h ..) ?_) <;>
  · simp only [scale3, CubicElt.map, cast_mul, cast_norm3 h, g0, g1, g2, h0, h1, h2]
    ring

theorem eq_zero3_of_norm3 (h : c.FieldLegal) {a : CubicElt Nat} (ha : c.Reduced3 a)
    (hn : (c.norm3 a : ZMod c.pMod) = 0) : a = zero3 := by
  have hpos := h.prime.pos
  have hzero : c.norm3 a = 0 := eq_of_cast_eq (add_lt hpos ..) hpos (by rw [hn, Nat.cast_zero])
  refine eq_zero3_of_adjugate3 h ha (eq_zero3_of_adjugate3 h (reduced3_adjugate3 hpos a) ?_)
  rw [adjugate3_adjugate3 hpos, hzero]
  simp [scale3, CubicElt.map, mul, zero3]

theorem FieldLegal.not_isSquare_beta (h : c.FieldLegal) : ¬IsSquare (c.beta : ZMod c.pMod) := by
  have := Fact.mk h.prime
  have hlow : 4 < c.pMod := lt_of_lt_of_le (by decide +kernel) h.low
  have htwo : (2 : ZMod c.pMod) ≠ 0 := by
    intro e
    have : (2 : Nat) = 0 := eq_of_cast_eq (c := c) (by omega) h.prime.pos (by exact_mod_cast e)
    omega
  rintro ⟨x, hx⟩
  rw [beta_eq hlow, Nat.cast_sub hlow.le, ZMod.natCast_self] at hx
  refine ZMod.exists_sq_eq_neg_one_iff.mp ⟨x / 2, ?_⟩ (by have := h.mod12; omega)
  field_simp
  push_cast at hx
  linear_combination hx

/-! ### The inverses -/

theorem value3_mul_inv3 (h : c.FieldLegal) {a : CubicElt Nat} (ha : c.Reduced3 a) (hne : a ≠ zero3) :
    c.value3 a * c.value3 (c.inv3 a) = 1 := by
  have := Fact.mk h.prime
  have hn := mt (eq_zero3_of_norm3 h ha) hne
  have hone : (c.mul (c.norm3 a) (c.inv (c.norm3 a)) : c.Tower) = (1 : Nat) := by
    refine tower_cast_eq ?_
    rw [cast_mul, cast_inv h.prime hn, mul_inv_cancel₀ hn, Nat.cast_one]
  rw [inv3_eq, value3_scale3, ← mul_assoc, value3_mul_adjugate3 h.prime.pos, ← tower_cast_mul, hone, Nat.cast_one]

/-- The norm of R210, an element of Fp3. -/
def norm6 (c : Config) (a : SexticElt Nat) : CubicElt Nat :=
  c.sub3 (c.mul3 a.a0 a.a0) (c.mulXi (c.mul3 a.a1 a.a1))

theorem inv6_eq (a : SexticElt Nat) :
    c.inv6 a = ⟨c.mul3 a.a0 (c.inv3 (c.norm6 a)), c.neg3 (c.mul3 a.a1 (c.inv3 (c.norm6 a)))⟩ := rfl

theorem value3_norm6 (h : 0 < c.pMod) (a : SexticElt Nat) :
    c.value3 (c.norm6 a) = c.value3 a.a0 ^ 2 - c.towerW ^ 2 * c.value3 a.a1 ^ 2 := by
  rw [norm6, value3_sub3 _ (reduced3_mulXi h (reduced3_mul3 h ..)), value3_mulXi, value3_mul3, value3_mul3,
    ← pow_two, ← pow_two]

/-- The norm vanishes at zero only: else `β` were the square of a quotient of norms of Fp3. -/
theorem eq_zero6_of_norm6 (h : c.FieldLegal) {a : SexticElt Nat} (ha : c.Reduced6 a) (hn : c.norm6 a = zero3) :
    a = zero6 := by
  have := Fact.mk h.prime
  have hpos := h.prime.pos
  have hval := value3_norm6 hpos a
  rw [hn, value3_zero3, eq_comm, sub_eq_zero, pow_two, pow_two (c.value3 a.a1), ← value3_mul3, ← value3_mul3,
    ← value3_mulXi] at hval
  have heq := value3_injective h.prime.one_lt (reduced3_mul3 hpos ..) (reduced3_mulXi hpos (reduced3_mul3 hpos ..)) hval
  have hnorm : (c.norm3 a.a0 * c.norm3 a.a0 : ZMod c.pMod) = c.beta * (c.norm3 a.a1 * c.norm3 a.a1) := by
    rw [← cast_norm3_mul3 hpos, heq, cast_norm3_mulXi hpos, cast_norm3_mul3 hpos]
  have h1 : (c.norm3 a.a1 : ZMod c.pMod) = 0 := by
    by_contra hne
    refine h.not_isSquare_beta ⟨c.norm3 a.a0 / c.norm3 a.a1, ?_⟩
    field_simp
    linear_combination -hnorm
  rw [h1, mul_zero, mul_zero, mul_self_eq_zero] at hnorm
  exact sextic_ext (eq_zero3_of_norm3 h ha.1 hnorm) (eq_zero3_of_norm3 h ha.2 h1)

theorem value6_mul_inv6 (h : c.FieldLegal) {a : SexticElt Nat} (ha : c.Reduced6 a) (hne : a ≠ zero6) :
    c.value6 a * c.value6 (c.inv6 a) = 1 := by
  have hpos := h.prime.pos
  have hone := value3_mul_inv3 h (reduced3_sub3 hpos _ _) (mt (eq_zero6_of_norm6 h ha) hne)
  rw [← norm6, value3_norm6 hpos] at hone
  rw [inv6_eq, value6, value6, value3_neg3 (reduced3_mul3 hpos ..), value3_mul3, value3_mul3]
  linear_combination hone

theorem mul3_inv3 (h : c.FieldLegal) {a : CubicElt Nat} (ha : c.Reduced3 a) (hne : a ≠ zero3) :
    c.mul3 a (c.inv3 a) = c.one3 := by
  have hpos := h.prime.pos
  refine value3_injective h.prime.one_lt (reduced3_mul3 hpos ..) (reduced3_one3 hpos) ?_
  rw [value3_mul3, value3_mul_inv3 h ha hne, value3_one3]

theorem mul6_inv6 (h : c.FieldLegal) {a : SexticElt Nat} (ha : c.Reduced6 a) (hne : a ≠ zero6) :
    c.mul6 a (c.inv6 a) = c.one6 := by
  have hpos := h.prime.pos
  refine value6_injective h.prime.one_lt (reduced6_mul6 hpos ..) (reduced6_one6 hpos) ?_
  rw [value6_mul6, value6_mul_inv6 h ha hne, value6_one6]

theorem inv3_zero3 : c.inv3 zero3 = zero3 := by
  simp [inv3, zero3, scale3, CubicElt.map, sub, sq, mul]

theorem inv6_zero6 : c.inv6 zero6 = zero6 := by
  have hnorm : c.norm6 zero6 = zero3 := by
    simp [norm6, zero6, zero3, sub3, CubicElt.zipWith, mul3, mulXi, add, sub, mul]
  rw [inv6_eq, hnorm, inv3_zero3]
  simp [zero6, zero3, mul3, neg3, CubicElt.map, add, neg, mul]

theorem reduced3_inv3 (h : 0 < c.pMod) (a : CubicElt Nat) : c.Reduced3 (c.inv3 a) := reduced3_scale3 h ..

theorem reduced6_inv6 (h : 0 < c.pMod) (a : SexticElt Nat) : c.Reduced6 (c.inv6 a) :=
  ⟨reduced3_mul3 h .., reduced3_neg3 h _⟩

end Sys2Proof.Config

namespace Sys2Proof.Machine

variable {c : Config}

/-! ### Zero and Montgomery form -/

theorem dec3_zero : c.dec3 ⟨0, 0, 0⟩ = Config.zero3 := by
  simp only [Config.dec3, CubicElt.map, Config.dec_zero, Config.zero3]

theorem enc3_zero3 : c.enc3 Config.zero3 = ⟨0, 0, 0⟩ := by
  simp only [Config.enc3, CubicElt.map, Config.enc_zero, Config.zero3]

theorem dec6_zero : c.dec6 ⟨⟨0, 0, 0⟩, ⟨0, 0, 0⟩⟩ = Config.zero6 := Config.sextic_ext dec3_zero dec3_zero

theorem enc6_zero6 : c.enc6 Config.zero6 = ⟨⟨0, 0, 0⟩, ⟨0, 0, 0⟩⟩ := by
  rw [Config.enc6, SexticElt.map, ← Config.enc3, ← Config.enc3, Config.zero6, enc3_zero3]

theorem eq_zero_of_dec (h : c.FieldLegal) {x : Fp} (hx : valid c x = true) (h0 : c.dec x = 0) : x = 0 := by
  by_contra hne
  exact h.cast_dec_ne_zero (of_decide_eq_true hx) hne (by rw [h0, Nat.cast_zero])

theorem eq_zero_of_dec3 (h : c.FieldLegal) {a : CubicElt Fp} (ha : a.all (valid c) = true)
    (h0 : c.dec3 a = Config.zero3) : a = ⟨0, 0, 0⟩ := by
  obtain ⟨ha0, ha1, ha2⟩ := all3_iff.mp ha
  obtain ⟨a0, a1, a2⟩ := a
  obtain ⟨h0, h1, h2⟩ := CubicElt.mk.inj h0
  obtain rfl : a0 = 0 := eq_zero_of_dec h ha0 h0
  obtain rfl : a1 = 0 := eq_zero_of_dec h ha1 h1
  obtain rfl : a2 = 0 := eq_zero_of_dec h ha2 h2
  rfl

theorem eq_zero_of_dec6 (h : c.FieldLegal) {a : SexticElt Fp} (ha : a.all (valid c) = true)
    (h0 : c.dec6 a = Config.zero6) : a = ⟨⟨0, 0, 0⟩, ⟨0, 0, 0⟩⟩ := by
  obtain ⟨ha0, ha1⟩ := all6_iff.mp ha
  obtain ⟨a0, a1⟩ := a
  obtain ⟨h0, h1⟩ := SexticElt.mk.inj h0
  obtain rfl : a0 = ⟨0, 0, 0⟩ := eq_zero_of_dec3 h ha0 h0
  obtain rfl : a1 = ⟨0, 0, 0⟩ := eq_zero_of_dec3 h ha1 h1
  rfl

/-! ### The commands -/

theorem all_valid_of_denotes3 {v : CubicElt Fp} {a : CubicElt Nat} (h : c.Denotes3 v a) : v.all (valid c) = true := by
  obtain ⟨⟨h0, -⟩, ⟨h1, -⟩, h2, -⟩ := h
  exact all3_iff.mpr ⟨decide_eq_true h0, decide_eq_true h1, decide_eq_true h2⟩

theorem all_valid_of_denotes6 {v : SexticElt Fp} {a : SexticElt Nat} (h : c.Denotes6 v a) : v.all (valid c) = true := by
  obtain ⟨h0, h1⟩ := h
  exact all6_iff.mpr ⟨all_valid_of_denotes3 h0, all_valid_of_denotes3 h1⟩

theorem dec3_eq_of_denotes3 {v : CubicElt Fp} {a : CubicElt Nat} (h : c.Denotes3 v a) : c.dec3 v = a := by
  obtain ⟨⟨-, h0⟩, ⟨-, h1⟩, -, h2⟩ := h
  exact Config.cubic_ext h0 h1 h2

theorem dec6_eq_of_denotes6 {v : SexticElt Fp} {a : SexticElt Nat} (h : c.Denotes6 v a) : c.dec6 v = a := by
  obtain ⟨h0, h1⟩ := h
  exact Config.sextic_ext (dec3_eq_of_denotes3 h0) (dec3_eq_of_denotes3 h1)

section
variable {s : State} {rd ra : Idx}

theorem setsFp3_fp3Inv (ha : (s.getFp3 ra).all (valid s.cfg) = true) :
    SetsFp3 (.fp3Inv rd ra) s rd (s.cfg.enc3 (s.cfg.inv3 (s.cfg.dec3 (s.getFp3 ra)))) := by
  simp only [SetsFp3, exec, execFp3Inv, fp3Unary_inDomain s _ rd ra ha]

theorem setsFp6_fp6Inv (ha : (s.getFp6 ra).all (valid s.cfg) = true) :
    SetsFp6 (.fp6Inv rd ra) s rd (s.cfg.enc6 (s.cfg.inv6 (s.cfg.dec6 (s.getFp6 ra)))) := by
  simp only [SetsFp6, exec, execFp6Inv, fp6Unary_inDomain s _ rd ra ha]

end

/-- Settles O42: in either tower the value is the Montgomery form of conjugate over norm, and the norm of an element
other than zero is not zero. -/
theorem extensionInverse : Obligations.ExtensionInverse := by
  unfold Obligations.ExtensionInverse
  refine ⟨fun s rd ra h ha => ?inv3, fun s rd ra h ha => ?inv6⟩
  case inv3 =>
    have hpos := h.prime.pos
    have hden := denotes3_enc3 h.enc_denotes (Config.reduced3_inv3 hpos (s.cfg.dec3 (s.getFp3 ra)))
    refine ⟨_, all_valid_of_denotes3 hden, fun h0 => ?_, fun hne => ?_, setsFp3_fp3Inv ha⟩
    · rw [h0, dec3_zero, Config.inv3_zero3, enc3_zero3]
    · rw [dec3_eq_of_denotes3 hden]
      exact Config.mul3_inv3 h (Config.reduced3_dec3 hpos _) (mt (eq_zero_of_dec3 h ha) hne)
  case inv6 =>
    have hpos := h.prime.pos
    have hden := denotes6_enc6 h.enc_denotes (Config.reduced6_inv6 hpos (s.cfg.dec6 (s.getFp6 ra)))
    refine ⟨_, all_valid_of_denotes6 hden, fun h0 => ?_, fun hne => ?_, setsFp6_fp6Inv ha⟩
    · rw [h0, dec6_zero, Config.inv6_zero6, enc6_zero6]
    · rw [dec6_eq_of_denotes6 hden]
      exact Config.mul6_inv6 h (Config.reduced6_dec6 hpos _) (mt (eq_zero_of_dec6 h ha) hne)

end Sys2Proof.Machine
end

section
/-! The Frobenius maps (R162, R181, R193, R213): in a ring of characteristic `p` the power by `p^k` is additive and
fixes residues, and it takes `w` to `ζ^k·w`. -/
namespace Sys2Proof.Config

variable {c : Config}

/-! ### The constants -/

@[simp] theorem tower_cast_pow (a e : Nat) : (c.pow a e : c.Tower) = a ^ e := by
  rw [← Nat.cast_pow]
  exact tower_cast_eq (by rw [cast_pow, Nat.cast_pow])

/-- `ω` is the square of `ζ`. -/
theorem tower_cast_omega (h : c.FieldLegal) : (c.omega : c.Tower) = c.zeta ^ 2 := by
  rw [omega, zeta, tower_cast_pow, tower_cast_pow, ← pow_mul]
  congr 1
  have := h.mod12
  omega

theorem zeta_pow_six (h : c.FieldLegal) : (c.zeta : c.Tower) ^ 6 = 1 := by
  have := Fact.mk h.prime
  have hexp : (c.pMod - 1) / 6 * 6 = c.pMod - 1 := by have := h.mod12; omega
  have hone : ((c.beta ^ (c.pMod - 1) : Nat) : c.Tower) = (1 : Nat) := by
    refine tower_cast_eq ?_
    rw [Nat.cast_pow, ZMod.pow_card_sub_one_eq_one h.cast_beta_ne_zero, Nat.cast_one]
  rw [zeta, tower_cast_pow, ← pow_mul, hexp, ← Nat.cast_pow, hone, Nat.cast_one]

/-! ### The power by `p^k` -/

theorem FieldLegal.expChar_tower (h : c.FieldLegal) : ExpChar c.Tower c.pMod := by
  have := Fact.mk h.prime
  have : Nontrivial c.Tower := AdjoinRoot.nontrivial _ (by
    rw [Polynomial.degree_X_pow_sub_C (by decide)]
    decide)
  exact expChar_of_injective_algebraMap (algebraMap (ZMod c.pMod) c.Tower).injective c.pMod

/-- `w^p = w·(w⁶)^((p−1)/6)` (R193). -/
theorem towerW_pow_card (h : c.FieldLegal) : c.towerW ^ c.pMod = c.zeta * c.towerW := by
  have hexp : c.pMod = 6 * ((c.pMod - 1) / 6) + 1 := by have := h.mod12; omega
  rw [zeta, tower_cast_pow, ← towerW_pow_six, ← pow_mul, ← pow_succ, ← hexp]

theorem towerW_pow_card_pow (h : c.FieldLegal) (k : Nat) : c.towerW ^ c.pMod ^ k = c.zeta ^ k * c.towerW := by
  have := h.expChar_tower
  induction k with
  | zero => simp
  | succ k ih =>
    have hzeta : (c.zeta : c.Tower) ^ c.pMod = c.zeta := by rw [← frobenius_def, map_natCast]
    rw [pow_succ c.pMod, pow_mul, ih, mul_pow, pow_right_comm, hzeta, towerW_pow_card h, pow_succ (c.zeta : c.Tower),
      mul_assoc]

/-- The power of an element of Fp3 moves only `w`. -/
theorem value3_pow_card_pow (h : c.FieldLegal) (a : CubicElt Nat) (k : Nat) : c.value3 a ^ c.pMod ^ k =
    a.c0 + a.c1 * (c.zeta ^ k * c.towerW) ^ 2 + a.c2 * (c.zeta ^ k * c.towerW) ^ 4 := by
  have := h.expChar_tower
  rw [← towerW_pow_card_pow h, ← iterateFrobenius_def, ← iterateFrobenius_def, value3]
  simp only [map_add, map_mul, map_pow, map_natCast]

/-! ### The tables -/

theorem value3_frob3 (h : c.FieldLegal) (a : CubicElt Nat) (k : Nat) : c.value3 (c.frob3 a k) =
    a.c0 + a.c1 * (c.zeta ^ k * c.towerW) ^ 2 + a.c2 * (c.zeta ^ k * c.towerW) ^ 4 := by
  have homega : (c.omega : c.Tower) ^ (k % 3) = (c.zeta ^ k) ^ 2 := by
    rw [← pow_eq_pow_mod k (by rw [tower_cast_omega h, ← pow_mul, zeta_pow_six h]), tower_cast_omega h, pow_right_comm]
  simp only [value3, frob3, tower_cast_mul, tower_cast_pow, mul_comm 2, pow_mul, homega]
  ring

theorem value6_frob6 (h : c.FieldLegal) (a : SexticElt Nat) (k : Nat) :
    c.value6 (c.frob6 a k) = c.value6 a ^ c.pMod ^ k := by
  have := h.expChar_tower
  have hzeta : (c.zeta : c.Tower) ^ (k % 6) = c.zeta ^ k := (pow_eq_pow_mod k (zeta_pow_six h)).symm
  rw [value6, value6, ← iterateFrobenius_def, map_add, map_mul, iterateFrobenius_def, iterateFrobenius_def,
    iterateFrobenius_def, value3_pow_card_pow h, value3_pow_card_pow h, towerW_pow_card_pow h]
  simp only [frob6, value3_scale3, value3_frob3 h, tower_cast_pow, hzeta]
  ring

theorem reduced3_frob3 (h : 0 < c.pMod) {a : CubicElt Nat} (ha : c.Reduced3 a) (k : Nat) : c.Reduced3 (c.frob3 a k) :=
  ⟨ha.1, mul_lt h .., mul_lt h ..⟩

theorem reduced6_frob6 (h : 0 < c.pMod) {a : SexticElt Nat} (ha : c.Reduced6 a) (k : Nat) : c.Reduced6 (c.frob6 a k) :=
  ⟨reduced3_frob3 h ha.1 _, reduced3_scale3 h ..⟩

/-- The table of R162 is exponentiation. -/
theorem power3_card_pow (h : c.FieldLegal) {a : CubicElt Nat} (ha : c.Reduced3 a) (k : Nat) :
    c.power3 a (c.pMod ^ k) = c.frob3 a k := by
  have hpos := h.prime.pos
  refine value3_injective h.prime.one_lt (reduced3_power3 hpos ..) (reduced3_frob3 hpos ha k) ?_
  rw [value3_power3, value3_pow_card_pow h, value3_frob3 h]

/-- The table of R193 is exponentiation. -/
theorem power6_card_pow (h : c.FieldLegal) {a : SexticElt Nat} (ha : c.Reduced6 a) (k : Nat) :
    c.power6 a (c.pMod ^ k) = c.frob6 a k := by
  have hpos := h.prime.pos
  refine value6_injective h.prime.one_lt (reduced6_power6 hpos ..) (reduced6_frob6 hpos ha k) ?_
  rw [value6_power6, value6_frob6 h]

end Sys2Proof.Config

namespace Sys2Proof.Machine

section
variable {s : State} {rd ra : Idx}

theorem setsFp3_fp3Frob (imm8 : BitVec 8) (ha : (s.getFp3 ra).all (valid s.cfg) = true) :
    SetsFp3 (.fp3Frob rd ra imm8) s rd (s.cfg.enc3 (s.cfg.frob3 (s.cfg.dec3 (s.getFp3 ra)) imm8.toNat)) := by
  simp only [SetsFp3, exec, execFp3Frob, fp3Unary_inDomain s _ rd ra ha]

theorem setsFp6_fp6Frob (imm8 : BitVec 8) (ha : (s.getFp6 ra).all (valid s.cfg) = true) :
    SetsFp6 (.fp6Frob rd ra imm8) s rd (s.cfg.enc6 (s.cfg.frob6 (s.cfg.dec6 (s.getFp6 ra)) imm8.toNat)) := by
  simp only [SetsFp6, exec, execFp6Frob, fp6Unary_inDomain s _ rd ra ha]

end

/-- Settles O44: the tables are exponentiation, in either tower. -/
theorem frobeniusIsPower : Obligations.FrobeniusIsPower := by
  unfold Obligations.FrobeniusIsPower
  refine ⟨fun s rd ra imm8 h ha => ?frob3, fun s rd ra imm8 h ha => ?frob6⟩
  case frob3 =>
    have hred := Config.reduced3_dec3 h.prime.pos (s.getFp3 ra)
    rw [Config.power3_card_pow h hred]
    exact ⟨_, denotes3_enc3 h.enc_denotes (Config.reduced3_frob3 h.prime.pos hred _), setsFp3_fp3Frob imm8 ha⟩
  case frob6 =>
    have hred := Config.reduced6_dec6 h.prime.pos (s.getFp6 ra)
    rw [Config.power6_card_pow h hred]
    exact ⟨_, denotes6_enc6 h.enc_denotes (Config.reduced6_frob6 h.prime.pos hred _), setsFp6_fp6Frob imm8 ha⟩

end Sys2Proof.Machine
end

section
/-! The products of Fp6 written out (R207, R208, R214, R215), and the conjugate as a Frobenius map (R193, R212). -/
namespace Sys2Proof.Machine

variable {c : Config}

/-! ### Products in Fp6 -/

theorem denotes6_enc6_mul6 (h : c.Sized) (a b : SexticElt Nat) : c.Denotes6 (c.enc6 (c.mul6 a b)) (c.mul6 a b) :=
  denotes6_enc6 (Config.enc_denotes h) (Config.reduced6_mul6 h.pos ..)

/-- The product modulo `w² = v` written out (R207). -/
theorem mul6_eq (h : c.Sized) (a b : SexticElt Nat) : c.mul6 a b =
    ⟨⟨(a.a0.c0 * b.a0.c0 + (c.pMod - 4) * (a.a0.c1 * b.a0.c2 + a.a0.c2 * b.a0.c1) +
          (c.pMod - 4) * (a.a1.c0 * b.a1.c2 + a.a1.c1 * b.a1.c1 + a.a1.c2 * b.a1.c0)) % c.pMod,
      (a.a0.c0 * b.a0.c1 + a.a0.c1 * b.a0.c0 + (c.pMod - 4) * (a.a0.c2 * b.a0.c2) +
          (a.a1.c0 * b.a1.c0 + (c.pMod - 4) * (a.a1.c1 * b.a1.c2 + a.a1.c2 * b.a1.c1))) % c.pMod,
      (a.a0.c0 * b.a0.c2 + a.a0.c1 * b.a0.c1 + a.a0.c2 * b.a0.c0 +
          (a.a1.c0 * b.a1.c1 + a.a1.c1 * b.a1.c0 + (c.pMod - 4) * (a.a1.c2 * b.a1.c2))) % c.pMod⟩,
     ⟨(a.a0.c0 * b.a1.c0 + (c.pMod - 4) * (a.a0.c1 * b.a1.c2 + a.a0.c2 * b.a1.c1) +
          (a.a1.c0 * b.a0.c0 + (c.pMod - 4) * (a.a1.c1 * b.a0.c2 + a.a1.c2 * b.a0.c1))) % c.pMod,
      (a.a0.c0 * b.a1.c1 + a.a0.c1 * b.a1.c0 + (c.pMod - 4) * (a.a0.c2 * b.a1.c2) +
          (a.a1.c0 * b.a0.c1 + a.a1.c1 * b.a0.c0 + (c.pMod - 4) * (a.a1.c2 * b.a0.c2))) % c.pMod,
      (a.a0.c0 * b.a1.c2 + a.a0.c1 * b.a1.c1 + a.a0.c2 * b.a1.c0 +
          (a.a1.c0 * b.a0.c2 + a.a1.c1 * b.a0.c1 + a.a1.c2 * b.a0.c0)) % c.pMod⟩⟩ := by
  simp only [Config.mul6, Config.add3, Config.mulXi, CubicElt.zipWith, mul3_eq h, Config.beta_eq h.low, Config.add,
    Config.mul, Nat.mul_mod_mod, Nat.add_mod_mod, Nat.mod_add_mod]

section
variable (h : c.Sized) (d : SexticElt Nat) (x y z : Nat)
include h

/-- The product by the sparse element with components 0, 1 and 4 (R214). -/
theorem mul6_sparse014 : c.mul6 d (Config.sparse014 x y z) =
    ⟨⟨(d.a0.c0 * x + (c.pMod - 4) * (d.a0.c2 * y + d.a1.c1 * z)) % c.pMod,
      (d.a0.c0 * y + d.a0.c1 * x + (c.pMod - 4) * (d.a1.c2 * z)) % c.pMod,
      (d.a0.c1 * y + d.a0.c2 * x + d.a1.c0 * z) % c.pMod⟩,
     ⟨(d.a1.c0 * x + (c.pMod - 4) * (d.a1.c2 * y + d.a0.c2 * z)) % c.pMod,
      (d.a1.c0 * y + d.a1.c1 * x + d.a0.c0 * z) % c.pMod,
      (d.a1.c1 * y + d.a1.c2 * x + d.a0.c1 * z) % c.pMod⟩⟩ := by
  rw [mul6_eq h, Config.sparse014]
  ring_nf

/-- The product by the sparse element with components 0, 3 and 4 (R215). -/
theorem mul6_sparse034 : c.mul6 d (Config.sparse034 x y z) =
    ⟨⟨(d.a0.c0 * x + (c.pMod - 4) * (d.a1.c2 * y + d.a1.c1 * z)) % c.pMod,
      (d.a0.c1 * x + d.a1.c0 * y + (c.pMod - 4) * (d.a1.c2 * z)) % c.pMod,
      (d.a0.c2 * x + d.a1.c1 * y + d.a1.c0 * z) % c.pMod⟩,
     ⟨(d.a1.c0 * x + d.a0.c0 * y + (c.pMod - 4) * (d.a0.c2 * z)) % c.pMod,
      (d.a1.c1 * x + d.a0.c1 * y + d.a0.c0 * z) % c.pMod,
      (d.a1.c2 * x + d.a0.c2 * y + d.a0.c1 * z) % c.pMod⟩⟩ := by
  rw [mul6_eq h, Config.sparse034]
  ring_nf

end

section
variable {s : State} {rd ra rb : Idx}

theorem setsFp6_fp6Mul (ha : (s.getFp6 ra).all (lazyOk s.cfg) = true) (hb : (s.getFp6 rb).all (lazyOk s.cfg) = true) :
    SetsFp6 (.fp6Mul rd ra rb) s rd
      (s.cfg.enc6 (s.cfg.mul6 (s.cfg.dec6 (s.getFp6 ra)) (s.cfg.dec6 (s.getFp6 rb)))) := by
  simp only [SetsFp6, exec, execFp6Mul, fp6Binary_inDomain s _ rd ra rb ha hb]

theorem setsFp6_fp6Square (ha : (s.getFp6 ra).all (lazyOk s.cfg) = true) : SetsFp6 (.fp6Square rd ra) s rd
    (s.cfg.enc6 (s.cfg.mul6 (s.cfg.dec6 (s.getFp6 ra)) (s.cfg.dec6 (s.getFp6 ra)))) := by
  simp only [SetsFp6, exec, execFp6Square, fp6Unary_inDomain s _ rd ra ha, Config.sq6]

/-- Either sparse command writes the product of its destination and its sparse element (R214, R215). -/
theorem setsFp6_fp6Sparse {i : Instr} {sparse : Nat → Nat → Nat → SexticElt Nat} {x y z : FpIdx}
    (hi : exec i s = fp6Sparse sparse rd x y z s) (hd : (s.getFp6 rd).all (lazyOk s.cfg) = true)
    (hx : lazyOk s.cfg (s.getFp x) = true) (hy : lazyOk s.cfg (s.getFp y) = true)
    (hz : lazyOk s.cfg (s.getFp z) = true) : SetsFp6 i s rd
      (s.cfg.enc6 (s.cfg.mul6 (s.cfg.dec6 (s.getFp6 rd))
        (sparse (s.cfg.dec (s.getFp x)) (s.cfg.dec (s.getFp y)) (s.cfg.dec (s.getFp z))))) := by
  simp only [SetsFp6, hi, fp6Sparse, hd, hx, hy, hz, Bool.and_self, inDomain_true, State.putFp6, complete_eq]

end

/-- Settles O41: every product is `mul6` over residues, in Montgomery form, and `mul6` by a sparse element leaves the
terms that R214 and R215 expand. -/
theorem fp6Products : Obligations.Fp6Products := by
  unfold Obligations.Fp6Products
  refine ⟨fun s rd ra rb h ha hb => ?mul, fun s rd ra _ ha => ?square,
    fun s rd x y z h hd hx hy hz => ⟨?sparse014, ?sparse034⟩⟩
  case mul =>
    simp only [← mul6_eq h]
    exact ⟨_, denotes6_enc6_mul6 h .., setsFp6_fp6Mul ha hb⟩
  case square => exact (setsFp6_fp6Square ha).trans (setsFp6_fp6Mul ha ha).symm
  case sparse014 =>
    rw [← mul6_sparse014 h]
    exact ⟨_, denotes6_enc6_mul6 h .., setsFp6_fp6Sparse rfl hd hx hy hz⟩
  case sparse034 =>
    rw [← mul6_sparse034 h]
    exact ⟨_, denotes6_enc6_mul6 h .., setsFp6_fp6Sparse rfl hd hx hy hz⟩

end Sys2Proof.Machine

namespace Sys2Proof.Config

variable {c : Config}

/-! ### The third power of the Frobenius map (R193) -/

/-- `ζ³ = β^((p−1)/2)`, and `β` is no square. -/
theorem zeta_pow_three_mod (h : c.FieldLegal) : c.zeta ^ 3 % c.pMod = c.pMod - 1 := by
  have hexp : (c.pMod - 1) / 6 * 3 = (c.pMod - 1) / 2 := by have := h.mod12; omega
  have hbeta : c.beta < c.pMod := neg_lt h.prime.pos _
  rw [zeta, pow_eq, ← Nat.pow_mod, ← pow_mul, hexp, ← pow_eq, pow_half_eq_iff h hbeta,
    ← isSquare_cast_iff h.prime.pos hbeta]
  exact h.not_isSquare_beta

theorem tower_cast_zeta_pow_three (h : c.FieldLegal) : (c.zeta : c.Tower) ^ 3 = -1 := by
  have hcast : ((c.zeta ^ 3 : Nat) : ZMod c.pMod) = -1 := by
    rw [← ZMod.natCast_mod, zeta_pow_three_mod h, Nat.cast_pred h.prime.pos, ZMod.natCast_self, zero_sub]
  simpa only [map_natCast, map_neg, map_one, map_pow, Nat.cast_pow] using congrArg (algebraMap (ZMod c.pMod) c.Tower) hcast

/-- The Frobenius map of Fp3 has order three. -/
theorem frob3_three (h : c.FieldLegal) {a : CubicElt Nat} (ha : c.Reduced3 a) : c.frob3 a 3 = a := by
  refine value3_injective h.prime.one_lt (reduced3_frob3 h.prime.pos ha 3) ha ?_
  rw [value3_frob3 h, tower_cast_zeta_pow_three h, value3]
  ring

/-- The conjugate is the third power of the Frobenius map (R212). -/
theorem frob6_three (h : c.FieldLegal) {a : SexticElt Nat} (ha : c.Reduced6 a) : c.frob6 a 3 = c.conj6 a := by
  obtain ⟨h0, h1⟩ := ha
  refine sextic_ext (frob3_three h h0) ?_
  change c.scale3 (c.pow c.zeta 3) (c.frob3 a.a1 3) = c.neg3 a.a1
  refine value3_injective h.prime.one_lt (reduced3_scale3 h.prime.pos ..) (reduced3_neg3 h.prime.pos _) ?_
  rw [frob3_three h h1, value3_scale3, tower_cast_pow, tower_cast_zeta_pow_three h, value3_neg3 h1, mul_neg_one]

/-- Montgomery form reads nothing of the parameters but the modulus, so the sizes of buffer and list are free. -/
theorem FieldLegal.sized_noBuffer (h : c.FieldLegal) : Sized { c with dmemSize := 0, maxPairs := 0 } :=
  FieldLegal.sized ⟨h.prime, h.low, h.high, h.mod12, h.nonCube⟩ (Nat.zero_le _) (Nat.zero_le _)

theorem FieldLegal.enc_eq_of_denotes (h : c.FieldLegal) {x : Fp} {a : Nat} (hx : c.Denotes x a) : c.enc a = x := by
  obtain ⟨hvalid, rfl⟩ := hx
  exact enc_dec h.sized_noBuffer hvalid

theorem FieldLegal.enc3_eq_of_denotes3 (h : c.FieldLegal) {x : CubicElt Fp} {a : CubicElt Nat} (hx : c.Denotes3 x a) :
    c.enc3 a = x := by
  obtain ⟨h0, h1, h2⟩ := hx
  simp only [enc3, CubicElt.map, h.enc_eq_of_denotes h0, h.enc_eq_of_denotes h1, h.enc_eq_of_denotes h2]

theorem FieldLegal.enc6_eq_of_denotes6 (h : c.FieldLegal) {x : SexticElt Fp} {a : SexticElt Nat}
    (hx : c.Denotes6 x a) : c.enc6 a = x := by
  obtain ⟨h0, h1⟩ := hx
  rw [enc6, SexticElt.map, ← enc3, ← enc3, h.enc3_eq_of_denotes3 h0, h.enc3_eq_of_denotes3 h1]

end Sys2Proof.Config

namespace Sys2Proof.Machine

/-- Negating the second half of the raw value denotes the conjugate (R212). -/
theorem denotes6_conj6 {c : Config} (h : c.FieldLegal) {a : SexticElt Fp} (ha : a.all (valid c) = true) :
    c.Denotes6 ⟨a.a0, a.a1.map (rawNeg c)⟩ (c.conj6 (c.dec6 a)) := by
  obtain ⟨h0, h1⟩ := all6_iff.mp ha
  exact ⟨denotes3_dec3 h0, denotes3_map (fun _ => denotes_rawNeg h.sized_noBuffer) h1⟩

/-- Settles O45: over residues the conjugate is the third power of the Frobenius map, and a valid value is the
Montgomery form of what it denotes. -/
theorem conjugateIsFrobeniusThree : Obligations.ConjugateIsFrobeniusThree := by
  unfold Obligations.ConjugateIsFrobeniusThree
  refine fun s rd ra h ha => ⟨?_, Config.zeta_pow_three_mod h⟩
  have hfrob : SetsFp6 (.fp6Frob rd ra 3) s rd ⟨(s.getFp6 ra).a0, (s.getFp6 ra).a1.map (rawNeg s.cfg)⟩ := by
    rw [← h.enc6_eq_of_denotes6 (denotes6_conj6 h ha), ← Config.frob6_three h (Config.reduced6_dec6 h.prime.pos _)]
    exact setsFp6_fp6Frob 3 ha
  rw [hfrob, exec, execFp6Conj, fp6Unary_inDomain s _ rd ra ha]

end Sys2Proof.Machine
end

section
/-! The reference formulas denote the chord-and-tangent law (R221, R222, R224, R225, R227): a finite triple `(X, Y, Z)`
stands over the affine `(x, y)` with `x·Z² = X` and `y·Z³ = Y`, and under these equations every formula is an identity
of the field. -/
namespace Sys2Proof.Config

variable {c : Config}

/-! ### Residues modulo a prime -/

theorem cast_ne_zero_iff {n : Nat} (hn : n < c.pMod) : (n : ZMod c.pMod) ≠ 0 ↔ n ≠ 0 :=
  not_congr ⟨fun h => eq_of_cast_eq hn (n.zero_le.trans_lt hn) (by rw [h, Nat.cast_zero]),
    fun h => by rw [h, Nat.cast_zero]⟩

theorem sq_lt (h : 0 < c.pMod) (a : Nat) : c.sq a < c.pMod := mul_lt h a a

/-- Residues are equal when their products with one unit are. -/
theorem eq_iff_of_cast_mul (hp : c.pMod.Prime) {k : ZMod c.pMod} (hk : k ≠ 0) {m n x y : Nat} (hm : m < c.pMod)
    (hn : n < c.pMod) (hx : x < c.pMod) (hy : y < c.pMod) (hmx : (m : ZMod c.pMod) = x * k)
    (hny : (n : ZMod c.pMod) = y * k) : m = n ↔ x = y := by
  have := Fact.mk hp
  refine ⟨fun h => eq_of_cast_eq hx hy (mul_right_cancel₀ hk ?_), fun h => eq_of_cast_eq hm hn ?_⟩
  · rw [← hmx, h, hny]
  · rw [hmx, h, hny]

theorem FieldLegal.cast_two_ne_zero (h : c.FieldLegal) : (2 : ZMod c.pMod) ≠ 0 := by
  have hlow : 2 < c.pMod := by have := h.mod12; have := h.prime.two_le; omega
  exact_mod_cast (cast_ne_zero_iff hlow).mpr (by decide)

/-! ### What a triple denotes (R221) -/

/-- The coordinates of a triple are residues. -/
structure ReducedPoint (c : Config) (t : Point Nat) : Prop where
  x : t.x < c.pMod
  y : t.y < c.pMod
  z : t.z < c.pMod

/-- The triple is finite and stands over the affine point: the relation of R221, without an inverse. -/
structure Over (c : Config) (t : Point Nat) (a : Affine Nat) : Prop where
  finite : (t.z : ZMod c.pMod) ≠ 0
  x : (t.x : ZMod c.pMod) = a.x * t.z ^ 2
  y : (t.y : ZMod c.pMod) = a.y * t.z ^ 3

theorem affine_ext_iff {a b : Affine Nat} : a = b ↔ a.x = b.x ∧ a.y = b.y := by
  cases a
  cases b
  rw [Affine.mk.injEq]

theorem denote_eq_none_iff {t : Point Nat} : c.denote t = none ↔ t.z = 0 := by
  unfold denote
  split <;> simp_all

theorem denote_eq_some_iff_over (hp : c.pMod.Prime) {t : Point Nat} {a : Affine Nat} (hz : t.z < c.pMod)
    (hx : a.x < c.pMod) (hy : a.y < c.pMod) : c.denote t = some a ↔ c.Over t a := by
  have := Fact.mk hp
  constructor
  · intro h
    obtain ⟨hz0, rfl⟩ := denote_eq_some.mp h
    have hne := (cast_ne_zero_iff hz).mpr hz0
    refine ⟨hne, ?_, ?_⟩ <;> simp only [cast_mul, cast_sq, cast_inv hp hne] <;> field_simp
  · rintro ⟨hne, hX, hY⟩
    refine denote_eq_some.mpr ⟨(cast_ne_zero_iff hz).mp hne, ?_⟩
    refine affine_ext_iff.mpr ⟨eq_of_cast_eq hx (mul_lt hp.pos _ _) ?_, eq_of_cast_eq hy (mul_lt hp.pos _ _) ?_⟩
    · rw [cast_mul, cast_sq, cast_inv hp hne, hX]
      field_simp
    · rw [cast_mul, cast_mul, cast_sq, cast_inv hp hne, hY]
      field_simp

theorem over_of_denote (hp : c.pMod.Prime) {t : Point Nat} {a : Affine Nat} (hz : t.z < c.pMod)
    (h : c.denote t = some a) : c.Over t a :=
  have ⟨hx, hy⟩ := denote_lt hp.pos h
  (denote_eq_some_iff_over hp hz hx hy).mp h

/-- Two points compare in `x` as the products of R221 and R225 do. -/
theorem cross_x_iff (hp : c.pMod.Prime) {s t : Point Nat} {a b : Affine Nat} (hs : c.Over s a) (ht : c.Over t b)
    (hax : a.x < c.pMod) (hbx : b.x < c.pMod) : c.mul s.x (c.sq t.z) = c.mul t.x (c.sq s.z) ↔ a.x = b.x := by
  have := Fact.mk hp
  obtain ⟨hz, hsx, -⟩ := hs
  obtain ⟨hw, htx, -⟩ := ht
  refine eq_iff_of_cast_mul hp (pow_ne_zero 2 (mul_ne_zero hz hw)) (mul_lt hp.pos _ _) (mul_lt hp.pos _ _) hax hbx ?_ ?_
  · rw [cast_mul, cast_sq, hsx]
    ring
  · rw [cast_mul, cast_sq, htx]
    ring

/-- Two points compare in `y` as the products `Y₁·Z₂³` and `Y₂·Z₁³` do, in whatever order these are multiplied out. -/
theorem cross_y_iff (hp : c.pMod.Prime) {s t : Point Nat} {a b : Affine Nat} (hs : c.Over s a) (ht : c.Over t b)
    (hay : a.y < c.pMod) (hby : b.y < c.pMod) {m n : Nat} (hm : m < c.pMod) (hn : n < c.pMod)
    (hms : (m : ZMod c.pMod) = s.y * t.z ^ 3) (hnt : (n : ZMod c.pMod) = t.y * s.z ^ 3) : m = n ↔ a.y = b.y := by
  have := Fact.mk hp
  obtain ⟨hz, -, hsy⟩ := hs
  obtain ⟨hw, -, hty⟩ := ht
  refine eq_iff_of_cast_mul hp (pow_ne_zero 3 (mul_ne_zero hz hw)) hm hn hay hby ?_ ?_
  · rw [hms, hsy]
    ring
  · rw [hnt, hty]
    ring

/-- The equivalence of triples is equality of what they denote. -/
theorem samePoint_iff (hp : c.pMod.Prime) {s t : Point Nat} (hs : s.z < c.pMod) (ht : t.z < c.pMod) :
    c.samePoint s t = true ↔ c.denote s = c.denote t := by
  cases ha : c.denote s with
  | none =>
    have hz : s.z = 0 := denote_eq_none_iff.mp ha
    rw [eq_comm (a := none), denote_eq_none_iff]
    simp [samePoint, hz]
  | some a =>
    have hz : s.z ≠ 0 := (denote_eq_some.mp ha).1
    cases hb : c.denote t with
    | none => simp [samePoint, hz, denote_eq_none_iff.mp hb]
    | some b =>
      have hw : t.z ≠ 0 := (denote_eq_some.mp hb).1
      obtain ⟨hax, hay⟩ := denote_lt hp.pos ha
      obtain ⟨hbx, hby⟩ := denote_lt hp.pos hb
      have hsa := over_of_denote hp hs ha
      have htb := over_of_denote hp ht hb
      have hx := cross_x_iff hp hsa htb hax hbx
      have hy : c.mul s.y (c.mul t.z (c.sq t.z)) = c.mul t.y (c.mul s.z (c.sq s.z)) ↔ a.y = b.y :=
        cross_y_iff hp hsa htb hay hby (mul_lt hp.pos _ _) (mul_lt hp.pos _ _) (by simp only [cast_mul, cast_sq]; ring)
          (by simp only [cast_mul, cast_sq]; ring)
      rw [Option.some_inj, affine_ext_iff, ← hx, ← hy]
      simp [samePoint, hz, hw]

/-! ### The third point of a chord or tangent (R222) -/

/-- A triple stands over the third point of slope `m` when it satisfies the equations of the law, cleared of the
denominator. -/
theorem denote_eq_thirdPoint (hp : c.pMod.Prime) {m : Nat} {a b : Affine Nat} {t : Point Nat} (hz : t.z < c.pMod)
    (hne : (t.z : ZMod c.pMod) ≠ 0) (hax : a.x < c.pMod) (hay : a.y < c.pMod) (hbx : b.x < c.pMod)
    (hX : (t.x : ZMod c.pMod) = (m ^ 2 - a.x - b.x) * t.z ^ 2)
    (hY : (t.y : ZMod c.pMod) = (m * (a.x - (m ^ 2 - a.x - b.x)) - a.y) * t.z ^ 3) :
    c.denote t = some (c.thirdPoint m a b) := by
  refine (denote_eq_some_iff_over hp hz (sub_lt hp.pos _ _) (sub_lt hp.pos _ _)).mpr ⟨hne, ?_, ?_⟩
  · rw [hX, thirdPoint, cast_sub hbx.le, cast_sub hax.le, cast_sq, pow_two (m : ZMod c.pMod)]
  · rw [hY, thirdPoint, cast_sub hay.le, cast_mul, cast_sub (sub_lt hp.pos _ _).le, cast_sub hbx.le, cast_sub hax.le,
      cast_sq, pow_two (m : ZMod c.pMod)]

/-! ### Doubling (R224) -/

theorem cast_double (h : 0 < c.pMod) {t : Point Nat} (hz : t.z ≠ 0) :
    ((c.double t).x : ZMod c.pMod) = (3 * t.x ^ 2) ^ 2 - 8 * t.x * t.y ^ 2 ∧
    ((c.double t).y : ZMod c.pMod) =
      3 * t.x ^ 2 * (4 * t.x * t.y ^ 2 - ((3 * t.x ^ 2) ^ 2 - 8 * t.x * t.y ^ 2)) - 8 * t.y ^ 4 ∧
    ((c.double t).z : ZMod c.pMod) = 2 * t.y * t.z := by
  simp only [double, if_neg hz, cast_sub (mul_lt h _ _).le, cast_sub (sq_lt h _).le, cast_sub (sub_lt h _ _).le,
    cast_add, cast_mul, cast_sq, Nat.cast_ofNat]
  refine ⟨?_, ?_, trivial⟩ <;> ring

theorem reducedPoint_double (h : 0 < c.pMod) {t : Point Nat} (ht : c.ReducedPoint t) : c.ReducedPoint (c.double t) := by
  unfold double
  split
  · exact ht
  · exact ⟨sub_lt h _ _, sub_lt h _ _, mul_lt h _ _⟩

/-- Doubling denotes the tangent law, infinity and the points with a vertical tangent included. -/
theorem denote_double (h : c.FieldLegal) {t : Point Nat} (ht : c.ReducedPoint t) :
    c.denote (c.double t) = c.groupAdd (c.denote t) (c.denote t) := by
  have hp := h.prime
  have := Fact.mk hp
  have hz3 : (c.double t).z < c.pMod := (reducedPoint_double hp.pos ht).z
  cases ha : c.denote t with
  | none =>
    have hz : t.z = 0 := denote_eq_none_iff.mp ha
    rw [double, if_pos hz, ha, groupAdd]
  | some a =>
    obtain ⟨hax, hay⟩ := denote_lt hp.pos ha
    obtain ⟨hne, hx, hy⟩ := over_of_denote hp ht.z ha
    obtain ⟨hX, hY, hZ⟩ := cast_double hp.pos ((cast_ne_zero_iff ht.z).mp hne)
    rw [hx, hy] at hX hY
    rw [hy] at hZ
    rw [groupAdd, if_neg (not_not.mpr rfl)]
    by_cases h0 : a.y = 0
    · rw [if_neg (fun hy => hy.2 h0), denote_eq_none_iff]
      by_contra hz
      exact (cast_ne_zero_iff hz3).mpr hz (by rw [hZ, h0, Nat.cast_zero]; ring)
    · rw [if_pos ⟨rfl, h0⟩]
      have hy0 : (a.y : ZMod c.pMod) ≠ 0 := (cast_ne_zero_iff hay).mpr h0
      have hden : (2 * a.y : ZMod c.pMod) ≠ 0 := mul_ne_zero h.cast_two_ne_zero hy0
      have hslope : (c.mul (c.mul 3 (c.sq a.x)) (c.inv (c.mul 2 a.y)) : ZMod c.pMod) * (2 * a.y) = 3 * a.x ^ 2 := by
        rw [cast_mul, cast_inv hp (by rwa [cast_mul, Nat.cast_ofNat]), cast_mul, cast_mul, cast_sq, Nat.cast_ofNat,
          Nat.cast_ofNat, inv_mul_cancel_right₀ hden, pow_two]
      generalize c.mul (c.mul 3 (c.sq a.x)) (c.inv (c.mul 2 a.y)) = m at hslope ⊢
      refine denote_eq_thirdPoint hp hz3 ?_ hax hay hax ?_ ?_
      · rw [hZ]
        exact mul_ne_zero (mul_ne_zero h.cast_two_ne_zero (mul_ne_zero hy0 (pow_ne_zero _ hne))) hne
      · rw [hX, hZ, mul_pow (a.x : ZMod c.pMod), ← mul_assoc, ← hslope]
        ring
      · rw [hY, hZ, mul_pow (a.x : ZMod c.pMod), ← mul_assoc, ← hslope]
        ring

/-! ### Addition (R225, R227) -/

/-- The formulas of R225, for two finite points with different `x`. -/
def chordTriple (c : Config) (s t : Point Nat) : Point Nat :=
  let u1 := c.mul s.x (c.sq t.z)
  let s1 := c.mul (c.mul s.y t.z) (c.sq t.z)
  let h := c.sub (c.mul t.x (c.sq s.z)) u1
  let i := c.sq (c.mul 2 h)
  let r := c.mul 2 (c.sub (c.mul (c.mul t.y s.z) (c.sq s.z)) s1)
  let x3 := c.sub (c.sub (c.sq r) (c.mul h i)) (c.mul 2 (c.mul u1 i))
  ⟨x3, c.sub (c.mul r (c.sub (c.mul u1 i) x3)) (c.mul 2 (c.mul s1 (c.mul h i))),
   c.mul (c.sub (c.sub (c.sq (c.add s.z t.z)) (c.sq s.z)) (c.sq t.z)) h⟩

theorem addPoint_of_finite {s t : Point Nat} (hs : s.z ≠ 0) (ht : t.z ≠ 0) : c.addPoint s t =
    if c.mul s.x (c.sq t.z) = c.mul t.x (c.sq s.z) then
      if c.mul (c.mul s.y t.z) (c.sq t.z) = c.mul (c.mul t.y s.z) (c.sq s.z) then c.double s else c.infinity
    else c.chordTriple s t := by
  rw [addPoint, if_neg hs, if_neg ht]
  rfl

theorem reducedPoint_infinity (h : 0 < c.pMod) : c.ReducedPoint c.infinity := ⟨h, Nat.mod_lt _ h, h⟩

theorem reducedPoint_chordTriple (h : 0 < c.pMod) (s t : Point Nat) : c.ReducedPoint (c.chordTriple s t) :=
  ⟨sub_lt h _ _, sub_lt h _ _, mul_lt h _ _⟩

theorem reducedPoint_addPoint (h : 0 < c.pMod) {s t : Point Nat} (hs : c.ReducedPoint s) (ht : c.ReducedPoint t) :
    c.ReducedPoint (c.addPoint s t) := by
  by_cases hz : s.z = 0
  · rwa [addPoint, if_pos hz]
  by_cases hw : t.z = 0
  · rwa [addPoint, if_neg hz, if_pos hw]
  rw [addPoint_of_finite hz hw]
  split_ifs
  · exact reducedPoint_double h hs
  · exact reducedPoint_infinity h
  · exact reducedPoint_chordTriple h s t

theorem cast_chordTriple (h : 0 < c.pMod) {s t : Point Nat} {a b : Affine Nat} (hs : c.Over s a) (ht : c.Over t b) :
    let k : ZMod c.pMod := s.z * t.z
    let d : ZMod c.pMod := b.x - a.x
    let e : ZMod c.pMod := b.y - a.y
    let x3 := 4 * k ^ 6 * (e ^ 2 - d ^ 3 - 2 * a.x * d ^ 2)
    ((c.chordTriple s t).x : ZMod c.pMod) = x3 ∧
    ((c.chordTriple s t).y : ZMod c.pMod) =
      2 * e * k ^ 3 * (4 * a.x * d ^ 2 * k ^ 6 - x3) - 8 * a.y * d ^ 3 * k ^ 9 ∧
    ((c.chordTriple s t).z : ZMod c.pMod) = 2 * d * k ^ 3 := by
  obtain ⟨-, hsx, hsy⟩ := hs
  obtain ⟨-, htx, hty⟩ := ht
  simp only [chordTriple, cast_sub (mul_lt h _ _).le, cast_sub (sq_lt h _).le, cast_sub (sub_lt h _ _).le,
    cast_add, cast_mul, cast_sq, Nat.cast_ofNat, hsx, hsy, htx, hty]
  refine ⟨?_, ?_, ?_⟩ <;> ring

/-- Two finite points with different `x`: the chord law. -/
theorem denote_chordTriple (h : c.FieldLegal) {s t : Point Nat} {a b : Affine Nat}
    (hs : c.Over s a) (ht : c.Over t b) (hax : a.x < c.pMod) (hay : a.y < c.pMod) (hbx : b.x < c.pMod)
    (hne : a.x ≠ b.x) : c.denote (c.chordTriple s t) =
      some (c.thirdPoint (c.mul (c.sub b.y a.y) (c.inv (c.sub b.x a.x))) a b) := by
  have hp := h.prime
  have := Fact.mk hp
  have hd : (b.x - a.x : ZMod c.pMod) ≠ 0 := fun h0 => hne (eq_of_cast_eq hax hbx (sub_eq_zero.mp h0).symm)
  have hslope : (c.mul (c.sub b.y a.y) (c.inv (c.sub b.x a.x)) : ZMod c.pMod) * (b.x - a.x) = b.y - a.y := by
    rw [cast_mul, cast_inv hp (by rwa [cast_sub hax.le]), cast_sub hay.le, cast_sub hax.le, inv_mul_cancel_right₀ hd]
  generalize c.mul (c.sub b.y a.y) (c.inv (c.sub b.x a.x)) = m at hslope ⊢
  obtain ⟨hX, hY, hZ⟩ := cast_chordTriple hp.pos hs ht
  refine denote_eq_thirdPoint hp (reducedPoint_chordTriple hp.pos s t).z ?_ hax hay hbx ?_ ?_
  · rw [hZ]
    exact mul_ne_zero (mul_ne_zero h.cast_two_ne_zero hd) (pow_ne_zero _ (mul_ne_zero hs.finite ht.finite))
  · rw [hX, hZ, ← hslope]
    ring
  · rw [hY, hZ, ← hslope]
    ring

/-- Addition denotes the chord-and-tangent law in every case of R222. -/
theorem denote_addPoint (h : c.FieldLegal) {s t : Point Nat} (hs : c.ReducedPoint s) (ht : c.ReducedPoint t) :
    c.denote (c.addPoint s t) = c.groupAdd (c.denote s) (c.denote t) := by
  have hp := h.prime
  cases ha : c.denote s with
  | none => rw [addPoint, if_pos (denote_eq_none_iff.mp ha), groupAdd]
  | some a =>
    have hz : s.z ≠ 0 := (denote_eq_some.mp ha).1
    cases hb : c.denote t with
    | none => rw [addPoint, if_neg hz, if_pos (denote_eq_none_iff.mp hb), ha]; rfl
    | some b =>
      obtain ⟨hax, hay⟩ := denote_lt hp.pos ha
      obtain ⟨hbx, hby⟩ := denote_lt hp.pos hb
      have hsa := over_of_denote hp hs.z ha
      have htb := over_of_denote hp ht.z hb
      have hx := cross_x_iff hp hsa htb hax hbx
      have hy : c.mul (c.mul s.y t.z) (c.sq t.z) = c.mul (c.mul t.y s.z) (c.sq s.z) ↔ a.y = b.y :=
        cross_y_iff hp hsa htb hay hby (mul_lt hp.pos _ _) (mul_lt hp.pos _ _) (by simp only [cast_mul, cast_sq]; ring)
          (by simp only [cast_mul, cast_sq]; ring)
      rw [addPoint_of_finite hz (denote_eq_some.mp hb).1, if_congr hx rfl rfl, if_congr hy rfl rfl, groupAdd]
      by_cases hxe : a.x = b.x
      · rw [if_pos hxe, if_neg (not_not.mpr hxe)]
        by_cases hye : a.y = b.y
        · obtain rfl : a = b := affine_ext_iff.mpr ⟨hxe, hye⟩
          rw [if_pos rfl, denote_double h hs, ha, groupAdd, if_neg (not_not.mpr rfl)]
        · rw [if_neg hye, if_neg (fun hy => hye hy.1), denote_eq_none_iff, infinity]
      · rw [if_neg hxe, if_pos hxe, denote_chordTriple h hsa htb hax hay hbx hxe]

/-! ### The negative (R222, R239) -/

theorem reducedPoint_negPoint (h : 0 < c.pMod) {t : Point Nat} (ht : c.ReducedPoint t) :
    c.ReducedPoint (c.negPoint t) := ⟨ht.x, neg_lt h _, ht.z⟩

theorem denote_negPoint (hp : c.pMod.Prime) {t : Point Nat} (ht : c.ReducedPoint t) :
    c.denote (c.negPoint t) = (c.denote t).map fun a => ⟨a.x, (c.pMod - a.y) % c.pMod⟩ := by
  cases ha : c.denote t with
  | none => exact denote_eq_none_iff.mpr (denote_eq_none_iff.mp ha : t.z = 0)
  | some a =>
    obtain ⟨hax, hay⟩ := denote_lt hp.pos ha
    obtain ⟨hz, hx, hy⟩ := over_of_denote hp ht.z ha
    have hneg : (c.neg t.y : ZMod c.pMod) = c.neg a.y * t.z ^ 3 := by
      rw [cast_neg ht.y.le, cast_neg hay.le, hy, neg_mul]
    exact (denote_eq_some_iff_over (a := ⟨a.x, c.neg a.y⟩) hp (reducedPoint_negPoint hp.pos ht).z hax
      (neg_lt hp.pos a.y)).mpr ⟨hz, hx, hneg⟩

end Sys2Proof.Config
end

section
/-! The point commands of both groups (R220 to R265): moves, loads, stores, the group law, affine form, predicates. Each
lemma is over a group; an obligation puts in the two commands. -/
namespace Sys2Proof.Machine

variable {s : State} {g : CurveGroup} {w : Word} {i : Instr}

/-! ### Moves (R230 to R236) -/

theorem g1Get_not_wellFormed (rd : FpIdx) (ra : Idx) {imm8 : BitVec 8} (h : 2 < imm8.toNat) :
    ¬(Instr.g1Get rd ra imm8).WellFormed := by
  simp [Instr.WellFormed, Instr.defect, atMost, Nat.not_le.mpr h]

theorem g2Get_not_wellFormed (rd : FpIdx) (ra : Idx) {imm8 : BitVec 8} (h : 2 < imm8.toNat) :
    ¬(Instr.g2Get rd ra imm8).WellFormed := by
  simp [Instr.WellFormed, Instr.defect, atMost, Nat.not_le.mpr h]

/-- Settles O47: each command completes with the register of its rule written. -/
theorem pointMoves : Obligations.PointMoves := by
  unfold Obligations.PointMoves
  intro s rd ra f x y z
  simp only [← one_eq]
  exact ⟨rfl, rfl, rfl, rfl, rfl, rfl, rfl, rfl, rfl, rfl, rfl, rfl, rfl, rfl,
    fun _ h => ⟨g1Get_not_wellFormed f ra h, g2Get_not_wellFormed f ra h⟩⟩

/-! ### The decode of 192 bytes (R65) -/

section
variable {c : Config} {b : Nat} {str : List Byte}

theorem pointOfBytes_zeros (h : ∀ byte ∈ str, byte = 0) : pointOfBytes c b str = some ⟨0, c.one, 0⟩ :=
  if_pos (List.all_eq_true.mpr fun x hx => beq_iff_eq.mpr (h x hx))

/-- A string that is not all zero decodes by its two coordinates. -/
theorem pointOfBytes_nonzero (hc : c.Sized) (hlen : str.length = 192) (h : ∃ byte ∈ str, byte ≠ 0) :
    let x := be (str.take 96)
    let y := be (str.drop 96)
    pointOfBytes c b str =
      if c.pMod ≤ x ∨ c.pMod ≤ y ∨ c.mont y y ≠ (c.mont (c.mont x x) x + b * 2 ^ 768 % c.pMod) % c.pMod then none
      else some ⟨BitVec.ofNat 768 x, BitVec.ofNat 768 y, c.one⟩ := by
  have hall : ¬str.all (· == 0) = true := by simpa using h
  have hx : fpAt str 0 = BitVec.ofNat 768 (be (str.take 96)) := by rw [fpAt, Nat.mul_zero, List.drop_zero]
  have hy : fpAt str 1 = BitVec.ofNat 768 (be (str.drop 96)) := by
    rw [fpAt, Nat.mul_one, List.take_of_length_le (by rw [List.length_drop, hlen])]
  have hxn : (BitVec.ofNat 768 (be (str.take 96))).toNat = be (str.take 96) :=
    toNat_be (List.length_take_le _ _)
  have hyn : (BitVec.ofNat 768 (be (str.drop 96))).toNat = be (str.drop 96) :=
    toNat_be (by rw [List.length_drop, hlen])
  simp only [pointOfBytes, if_neg hall, hx, hy, hxn, hyn, Config.enc_toNat hc.pos hc.lt_word.le, ge_iff_le,
    ← or_assoc, ite_or]

end

/-! ### Loads and stores (R233, R234) -/

theorem pointLd_of_decoded (rd : Idx) {v : Point Fp} (hr : s.dptr.toNat + s.dlen.toNat ≤ s.cfg.dmemSize)
    (hn : s.dlen.toNat = 192) (hv : pointOfBytes s.cfg (curveB s.cfg g) s.loaded = some v) :
    pointLd w g rd s = .next (s.setPoint g rd v).counted := by
  simp only [pointLd, loadString_length s _ hr hn, hv, complete_eq]

theorem pointLd_of_refused (rd : Idx) (hr : s.dptr.toNat + s.dlen.toNat ≤ s.cfg.dmemSize)
    (hn : s.dlen.toNat = 192) (hv : pointOfBytes s.cfg (curveB s.cfg g) s.loaded = none) :
    pointLd w g rd s = .next (errorEntry .notOnCurveError w s) := by
  simp only [pointLd, loadString_length s _ hr hn, hv, raise_eq]

/-- Settles O48: in range or not, a load by its length, and the decode of the 192 bytes by their content. -/
theorem pointLoads : Obligations.PointLoads := by
  unfold Obligations.PointLoads
  intro s r gi hgi
  have hexec : exec gi.2 s = pointLd (encode gi.2) gi.1 r s := by
    simp only [List.mem_cons, List.not_mem_nil, or_false] at hgi
    rcases hgi with rfl | rfl <;> rfl
  simp only [SetsPoint, hexec, ← one_eq]
  refine ⟨fun hc hr hn => ?_, fun hr hn => ?format, fun hr => ?range⟩
  case format => rw [pointLd, loadString_otherLength s _ hr hn]
  case range => rw [pointLd, loadString_outOfRange _ _ hr]
  have hlen : s.loaded.length = 192 := (loaded_length s).trans hn
  refine ⟨fun hz => ?zeros, fun hz hx hy hcurve => ?curve, fun hz hbad => ?refused⟩
  case zeros => exact pointLd_of_decoded r hr hn (pointOfBytes_zeros hz)
  case curve =>
    refine pointLd_of_decoded r hr hn ((pointOfBytes_nonzero hc hlen hz).trans (if_neg ?_))
    rw [not_or, not_or, not_le, not_le, not_not]
    exact ⟨hx, hy, hcurve⟩
  case refused => exact pointLd_of_refused r hr hn ((pointOfBytes_nonzero hc hlen hz).trans (if_pos hbad))

/-! ### A register in the domain (R223) -/

theorem point_all_iff {α : Type} {q : α → Bool} {a : Point α} :
    a.all q = true ↔ q a.x = true ∧ q a.y = true ∧ q a.z = true := by
  rw [Point.all, Bool.and_eq_true, Bool.and_eq_true, and_assoc]

theorem all_valid_of_pointOk {r : Idx} (h : s.pointOk g r = true) : (s.getPoint g r).all (valid s.cfg) = true :=
  (Bool.and_eq_true_iff.mp h).1

theorem reducedPoint_residues (h : 0 < s.cfg.pMod) (g : CurveGroup) (r : Idx) : s.cfg.ReducedPoint (s.residues g r) :=
  ⟨Config.dec_lt h _, Config.dec_lt h _, Config.dec_lt h _⟩

theorem residues_z_eq_zero_iff (h : s.cfg.FieldLegal) {r : Idx} (hok : s.pointOk g r = true) :
    (s.residues g r).z = 0 ↔ (s.getPoint g r).z = 0 := by
  obtain ⟨-, -, hz⟩ := point_all_iff.mp (all_valid_of_pointOk hok)
  refine ⟨eq_zero_of_dec h hz, fun h0 => ?_⟩
  rw [State.residues, Point.map, h0, Config.dec_zero]

/-- The coordinates of the affine point of a finite triple as register values (R226). -/
theorem denote_coordinates {c : Config} (h : c.FieldLegal) {t : Point Nat} (ht : c.ReducedPoint t) (hz : t.z ≠ 0) :
    ∃ a, c.denote t = some a ∧ (c.enc a.x).toNat < c.pMod ∧ (c.enc a.y).toNat < c.pMod ∧
      c.dec (c.enc a.x) * t.z ^ 2 % c.pMod = t.x ∧ c.dec (c.enc a.y) * t.z ^ 3 % c.pMod = t.y := by
  obtain ⟨htx, hty, htz⟩ := ht
  obtain ⟨a, ha⟩ := Option.ne_none_iff_exists'.mp (mt Config.denote_eq_none_iff.mp hz)
  obtain ⟨hax, hay⟩ := Config.denote_lt h.prime.pos ha
  obtain ⟨-, hX, hY⟩ := Config.over_of_denote h.prime htz ha
  refine ⟨a, ha, h.enc_lt _, h.enc_lt _, Config.eq_of_cast_eq (Nat.mod_lt _ h.prime.pos) htx ?_,
    Config.eq_of_cast_eq (Nat.mod_lt _ h.prime.pos) hty ?_⟩
  · rw [h.dec_enc hax, ZMod.natCast_mod, Nat.cast_mul, Nat.cast_pow, hX]
  · rw [h.dec_enc hay, ZMod.natCast_mod, Nat.cast_mul, Nat.cast_pow, hY]

/-! ### Stores -/

theorem bytesOf_zero (n : Nat) : bytesOf n 0 = List.replicate n 0 := by
  induction n with
  | zero => rfl
  | succ n ih => rw [bytesOf, Nat.zero_div, ih, List.replicate_succ']; rfl

theorem pointBytes_of_denote_none {c : Config} {v : Point Fp} (h : c.denote (v.map c.dec) = none) :
    pointBytes c v = bytesOf 192 0 := by
  rw [pointBytes, h, bytesOf_zero]

theorem pointBytes_of_denote_some {c : Config} {v : Point Fp} {a : Affine Nat}
    (h : c.denote (v.map c.dec) = some a) : pointBytes c v = bytesOf 192 (joined [c.enc a.x, c.enc a.y]) := by
  have hjoined := flatMap_fpBytes [c.enc a.x, c.enc a.y]
  rw [List.flatMap_cons, List.flatMap_singleton] at hjoined
  rw [pointBytes, h]
  exact hjoined

theorem stores_of_pointSt {r : Idx} {value : Nat} (hi : exec i s = pointSt w g r s) (hok : s.pointOk g r = true)
    (hr : s.dptr.toNat + 192 ≤ s.cfg.dmemSize) (hv : pointBytes s.cfg (s.getPoint g r) = bytesOf 192 value) :
    Stores i s 192 value 0 :=
  stores_of_storeString (w := w) (by rw [hi, pointSt, if_pos hok, hv]) hr

/-- Settles O49: the bytes of a register in the domain by what it denotes, in range or not. -/
theorem pointStores : Obligations.PointStores := by
  unfold Obligations.PointStores
  intro s r gi hgi
  have hexec : exec gi.2 s = pointSt (encode gi.2) gi.1 r s := by
    simp only [List.mem_cons, List.not_mem_nil, or_false] at hgi
    rcases hgi with rfl | rfl <;> rfl
  refine ⟨fun h hok hr => ⟨fun hz => ?infinity, fun hz => ?finite⟩, fun hr => ?range⟩
  case infinity =>
    have hnone := Config.denote_eq_none_iff (c := s.cfg).mpr ((residues_z_eq_zero_iff h hok).mpr hz)
    exact stores_of_pointSt hexec hok hr (pointBytes_of_denote_none hnone)
  case finite =>
    obtain ⟨a, ha, hx, hy, hX, hY⟩ := denote_coordinates h (reducedPoint_residues h.prime.pos gi.1 r)
      (mt (residues_z_eq_zero_iff h hok).mp hz)
    exact ⟨_, _, hx, hy, hX, hY, stores_of_pointSt hexec hok hr (pointBytes_of_denote_some ha)⟩
  case range =>
    rcases pointSt_cases s (encode gi.2) gi.1 r with ⟨-, h⟩ | ⟨hle, -⟩
    · exact hexec.trans h
    · exact absurd hle (Nat.not_le.mpr hr)

/-! ### The group law (R237, R238, R240) -/

/-- Membership in the class of a point is equality of what is denoted (R221, R227). -/
theorem inClass_iff {c : Config} (h : c.FieldLegal) {t : Point Nat} (ht : t.z < c.pMod) {v : Point Fp} :
    inClass c t v = true ↔ v.all (valid c) = true ∧ c.denote (v.map c.dec) = c.denote t := by
  rw [inClass, Bool.and_eq_true, Config.samePoint_iff h.prime (Config.dec_lt h.prime.pos _) ht]

theorem inClass_enc {c : Config} (h : c.FieldLegal) {t : Point Nat} (ht : c.ReducedPoint t) :
    inClass c t (t.map c.enc) = true := by
  have hvalid (a : Nat) : valid c (c.enc a) = true := decide_eq_true (h.enc_lt a)
  obtain ⟨hx, hy, hz⟩ := ht
  refine (inClass_iff h hz).mpr ⟨point_all_iff.mpr ⟨hvalid _, hvalid _, hvalid _⟩, ?_⟩
  simp only [Point.map, h.dec_enc hx, h.dec_enc hy, h.dec_enc hz]

/-- A command that draws from the class of a triple writes valid components of the same denotation. -/
theorem drawsPoint_of_drawPoint (h : s.cfg.FieldLegal) {rd : Idx} {t : Point Nat} (ht : s.cfg.ReducedPoint t)
    (hi : exec i s = .next (s.drawPoint g rd t).counted) : ∃ v : Point Fp, v.all (valid s.cfg) = true ∧
      s.cfg.denote (v.map s.cfg.dec) = s.cfg.denote t ∧ DrawsPoint i s g rd v := by
  obtain ⟨v, hv, hdraw⟩ := drawPoint_eq s g rd (inClass_enc h ht)
  obtain ⟨hvalid, hdenote⟩ := (inClass_iff h ht.z).mp hv
  exact ⟨v, hvalid, hdenote, hi.trans (by rw [hdraw])⟩

/-- Settles O50: each command draws from the class of the triple of its formula, which denotes the group law. -/
theorem pointGroupLaw : Obligations.PointGroupLaw := by
  unfold Obligations.PointGroupLaw
  simp only [List.mem_cons, List.not_mem_nil, or_false, Prod.mk.injEq]
  refine ⟨fun s rd ra rb g h ha hb => ?_, fun s rd ra g h ha => ?_⟩
  · have hab : (s.pointOk g ra && s.pointOk g rb) = true := Bool.and_eq_true_iff.mpr ⟨ha, hb⟩
    have hp := h.prime.pos
    have hra := reducedPoint_residues hp g ra
    have hrb := reducedPoint_residues hp g rb
    have hneg := Config.reducedPoint_negPoint hp hrb
    rw [← Config.denote_negPoint h.prime hrb, ← Config.denote_addPoint h hra hrb, ← Config.denote_addPoint h hra hneg]
    constructor
    · rintro i (⟨rfl, rfl⟩ | ⟨rfl, rfl⟩) <;>
        exact drawsPoint_of_drawPoint h (Config.reducedPoint_addPoint hp hra hrb) (pointAdd_inDomain s _ rd ra rb hab)
    · rintro i (⟨rfl, rfl⟩ | ⟨rfl, rfl⟩) <;>
        exact drawsPoint_of_drawPoint h (Config.reducedPoint_addPoint hp hra hneg) (pointSub_inDomain s _ rd ra rb hab)
  · have hra := reducedPoint_residues h.prime.pos g ra
    rw [← Config.denote_double h hra]
    rintro i (⟨rfl, rfl⟩ | ⟨rfl, rfl⟩) <;>
      exact drawsPoint_of_drawPoint h (Config.reducedPoint_double h.prime.pos hra) (pointDouble_inDomain s _ rd ra ha)

/-! ### The exact commands (R239, R241) -/

/-- The raw negative (R133). -/
theorem rawNeg_toNat_mod {c : Config} (h : c.Sized) (x : Fp) :
    (rawNeg c x).toNat = (c.pMod - x.toNat) % c.pMod := by
  rw [rawNeg_toNat h]
  split
  · rw [‹x.toNat = 0›, Nat.sub_zero, Nat.mod_self]
  · rw [Nat.mod_eq_of_lt (by have := h.pos; omega)]

theorem pointNeg_inDomain (rd : Idx) {ra : Idx} (h : (s.getPoint g ra).all (valid s.cfg) = true) :
    pointNeg g rd ra s = .next (s.setPoint g rd
      ⟨(s.getPoint g ra).x, rawNeg s.cfg (s.getPoint g ra).y, (s.getPoint g ra).z⟩).counted := by
  simp only [pointNeg, h, inDomain_true]
  rfl

theorem pointAffine_inDomain (rd : Idx) {ra : Idx} (h : s.pointOk g ra = true) : pointAffine g rd ra s =
    .next (s.setPoint g rd ((s.cfg.affine (s.residues g ra)).map s.cfg.enc)).counted := by
  rw [pointAffine, h]
  rfl

/-- The Montgomery form reads its argument modulo `p`. -/
theorem enc_mod (c : Config) (a : Nat) : c.enc (a % c.pMod) = c.enc a := by rw [Config.enc, Config.enc, Nat.mod_mul_mod]

theorem affine_of_denote_none {c : Config} {t : Point Nat} (h : c.denote t = none) :
    (c.affine t).map c.enc = ⟨0, c.one, 0⟩ := by
  simp only [Config.affine, h, Config.infinity, Point.map, enc_mod, Config.enc_zero, Config.one]

theorem affine_of_denote_some {c : Config} {t : Point Nat} {a : Affine Nat} (h : c.denote t = some a) :
    (c.affine t).map c.enc = ⟨c.enc a.x, c.enc a.y, c.one⟩ := by
  simp only [Config.affine, h, Point.map, enc_mod, Config.one]

/-- Settles O51: NEG on the raw value, AFFINE by what the register denotes. -/
theorem pointExact : Obligations.PointExact := by
  unfold Obligations.PointExact
  refine ⟨fun s rd ra gi hgi h hv => ?neg, fun s rd ra gi hgi h hok => ?_⟩ <;>
    simp only [List.mem_cons, List.not_mem_nil, or_false] at hgi
  case neg =>
    refine ⟨_, rawNeg_toNat_mod h _, ?_⟩
    rcases hgi with rfl | rfl <;> exact pointNeg_inDomain rd hv
  have hexec : exec gi.2 s = pointAffine gi.1 rd ra s := by rcases hgi with rfl | rfl <;> rfl
  simp only [SetsPoint, hexec, pointAffine_inDomain rd hok, ← one_eq]
  refine ⟨fun hz => ?infinity, fun hz => ?finite⟩
  case infinity =>
    rw [affine_of_denote_none (Config.denote_eq_none_iff.mpr ((residues_z_eq_zero_iff h hok).mpr hz))]
  case finite =>
    obtain ⟨a, ha, hx, hy, hX, hY⟩ := denote_coordinates h (reducedPoint_residues h.prime.pos gi.1 ra)
      (mt (residues_z_eq_zero_iff h hok).mp hz)
    exact ⟨_, _, hx, hy, hX, hY, by rw [affine_of_denote_some ha]⟩

/-! ### Predicates (R242 to R245) -/

/-- A predicate answers its question on an operand in its domain. -/
theorem setsB_of_inDomain {ok answer : Bool} (hi : exec i s = complete (s.putB (inDomain ok answer)))
    (h : ok = true) : SetsB i s answer := by
  rw [SetsB, hi, h]
  rfl

theorem onCurve_eq_decide {c : Config} (h : 0 < c.pMod) (b : Nat) (t : Point Nat) : c.onCurve b t =
    decide (t.z = 0 ∨ t.y ^ 2 % c.pMod = (t.x ^ 3 + b * t.z ^ 6) % c.pMod) := by
  have hy : c.sq t.y = t.y ^ 2 % c.pMod := by rw [Config.sq, Config.mul, pow_two]
  have hx : c.add (c.mul t.x (c.sq t.x)) (c.mul b (c.pow t.z 6)) = (t.x ^ 3 + b * t.z ^ 6) % c.pMod := by
    refine Config.eq_of_cast_eq (Config.add_lt h _ _) (Nat.mod_lt _ h) ?_
    simp only [Config.cast_add, Config.cast_mul, Config.cast_sq, Config.cast_pow, ZMod.natCast_mod, Nat.cast_add,
      Nat.cast_mul, Nat.cast_pow]
    ring
  rw [Bool.eq_iff_iff, decide_eq_true_iff, Config.onCurve, hy, hx, Bool.or_eq_true, beq_iff_eq, beq_iff_eq]

/-- Settles O52: two tests of the raw `z`, the curve equation, and equality of what is denoted. -/
theorem pointPredicates : Obligations.PointPredicates := by
  unfold Obligations.PointPredicates
  simp only [List.mem_cons, List.not_mem_nil, or_false, Prod.mk.injEq, ← one_eq, ← beq_eq_decide]
  refine ⟨fun s ra g => ⟨?isAffine, ?isInf⟩, fun s ra g h hv => ?isOnCurve, fun s ra rb g h ha hb => ?eq⟩
  case isAffine => rintro i (⟨rfl, rfl⟩ | ⟨rfl, rfl⟩) <;> rfl
  case isInf => rintro i (⟨rfl, rfl⟩ | ⟨rfl, rfl⟩) <;> rfl
  case isOnCurve =>
    rw [← onCurve_eq_decide h.pos]
    rintro i (⟨rfl, rfl⟩ | ⟨rfl, rfl⟩) <;> exact setsB_of_inDomain rfl hv
  case eq =>
    have hz (r : Idx) : (s.residues g r).z < s.cfg.pMod := (reducedPoint_residues h.prime.pos g r).z
    have hsame : s.cfg.samePoint (s.residues g ra) (s.residues g rb) =
        (s.cfg.denote (s.residues g ra) == s.cfg.denote (s.residues g rb)) := by
      rw [Bool.eq_iff_iff, beq_iff_eq, Config.samePoint_iff h.prime (hz ra) (hz rb)]
    rw [← hsame]
    rintro i (⟨rfl, rfl⟩ | ⟨rfl, rfl⟩) <;> exact setsB_of_inDomain rfl (Bool.and_eq_true_iff.mpr ⟨ha, hb⟩)

end Sys2Proof.Machine
end

section
/-! Scalar multiples (R270, R271, R274 to R280). A triple of residues represents the point it denotes; the reference
formulas keep this relation to the group law (R222), so the scan of R271 and the sum of R276 over triples represent
the scan and the sum over points. -/
namespace Sys2Proof

/-! ### The scan of R271 -/

/-- Two scans of the same number stay related when their starts are and doubling and stepping keep the relation. -/
theorem ladderGo_rel {α β : Type} {r : α → β → Prop} {dbl step : α → α} {dbl' step' : β → β} {start : α} {start' : β}
    (h0 : r start start') (hd : ∀ a b, r a b → r (dbl a) (dbl' b)) (hs : ∀ a b, r a b → r (step a) (step' b))
    (bits : Nat) : ∀ e, r (ladderGo dbl step start bits e) (ladderGo dbl' step' start' bits e) := by
  induction bits with
  | zero => exact fun _ => h0
  | succ bits ih =>
    intro e
    have hdbl := hd _ _ (ih (e / 2))
    unfold ladderGo
    by_cases hbit : e % 2 = 1
    · simpa only [if_pos hbit] using hs _ _ hdbl
    · simpa only [if_neg hbit] using hdbl

namespace Config

variable {c : Config}

/-! ### Triples and the points they represent (R221) -/

/-- A triple of residues and the affine point, `none` for infinity, that it denotes. -/
structure Represents (c : Config) (t : Point Nat) (a : Option (Affine Nat)) : Prop where
  reduced : c.ReducedPoint t
  denotes : c.denote t = a

theorem represents_infinity (h : 0 < c.pMod) : c.Represents c.infinity none :=
  ⟨reducedPoint_infinity h, denote_eq_none_iff.mpr rfl⟩

theorem Represents.double (h : c.FieldLegal) {t : Point Nat} {a : Option (Affine Nat)} (ht : c.Represents t a) :
    c.Represents (c.double t) (c.groupAdd a a) :=
  ⟨reducedPoint_double h.prime.pos ht.reduced, by rw [denote_double h ht.reduced, ht.denotes]⟩

theorem Represents.addPoint (h : c.FieldLegal) {s t : Point Nat} {a b : Option (Affine Nat)} (hs : c.Represents s a)
    (ht : c.Represents t b) : c.Represents (c.addPoint s t) (c.groupAdd a b) :=
  ⟨reducedPoint_addPoint h.prime.pos hs.reduced ht.reduced,
    by rw [denote_addPoint h hs.reduced ht.reduced, hs.denotes, ht.denotes]⟩

theorem Represents.mulPoint (h : c.FieldLegal) {t : Point Nat} {a : Option (Affine Nat)} (ht : c.Represents t a)
    (k : Nat) : c.Represents (c.mulPoint k t) (c.scanMultiple k a) :=
  ladderGo_rel (represents_infinity h.prime.pos) (fun _ _ hacc => hacc.double h) (fun _ _ hacc => hacc.addPoint h ht)
    (bitLen k) k

/-- The sum of R276, over terms given by their index. -/
theorem represents_sumMultiples (h : c.FieldLegal) {l : List Nat} {k : Nat → Nat} {t : Nat → Point Nat}
    {a : Nat → Option (Affine Nat)} (ht : ∀ j ∈ l, c.Represents (t j) (a j)) :
    c.Represents (c.sumMultiples (l.map fun j => (k j, t j)))
      (l.foldl (fun acc j => c.groupAdd acc (c.scanMultiple (k j) (a j))) none) := by
  rw [sumMultiples, List.foldl_map]
  exact List.foldl_rel (represents_infinity h.prime.pos) fun j hj _ _ hacc =>
    hacc.addPoint h ((ht j hj).mulPoint h (k j))

end Config
end Sys2Proof

namespace Sys2Proof.Machine

variable {s : State} {g : CurveGroup} {i : Instr}

/-! ### The commands (R274 to R280) -/

theorem represents_residues (h : s.cfg.FieldLegal) (g : CurveGroup) (r : Idx) :
    s.cfg.Represents (s.residues g r) (s.cfg.denote (s.residues g r)) :=
  ⟨reducedPoint_residues h.prime.pos g r, rfl⟩

/-- A command that draws from the class of a triple writes valid components of the point that it represents. -/
theorem drawsPoint_of_represents (h : s.cfg.FieldLegal) {rd : Idx} {t : Point Nat} {a : Option (Affine Nat)}
    (ht : s.cfg.Represents t a) (hi : exec i s = .next (s.drawPoint g rd t).counted) :
    ∃ v : Point Fp, v.all (valid s.cfg) = true ∧ s.cfg.denote (v.map s.cfg.dec) = a ∧ DrawsPoint i s g rd v := by
  rw [← ht.denotes]
  exact drawsPoint_of_drawPoint h ht.reduced hi

/-- Two register ranges of points in domain and scalars no longer than the order: the class of their sum is drawn
from (R272, R276). -/
theorem pointMsm_ofRanges (w : Word) (rd : Idx) {ra rb : Idx} {imm8 : BitVec 8} (hw : msmOperands ra rb imm8 = none)
    (h : ∀ k < imm8.toNat, s.pointOk g (nthAfter ra k) ∧ bitLen (s.getSc (nthAfter rb k)).toNat ≤ bitLen s.cfg.rOrd) :
    pointMsm w g rd ra rb imm8 s = .next (s.drawPoint g rd (s.cfg.sumMultiples ((List.range imm8.toNat).map
      fun k => ((s.getSc (nthAfter rb k)).toNat, s.residues g (nthAfter ra k))))).counted := by
  rw [pointMsm_inDomain s w g rd ra rb imm8 hw, List.map_map]
  · rfl
  · simpa using fun k hk => (h k hk).1
  · simpa using fun k hk => (h k hk).2

theorem z_beq_zero_of_represents {c : Config} {t : Point Nat} {a : Option (Affine Nat)} (ht : c.Represents t a) :
    (t.z == 0) = decide (a = none) := by
  rw [← ht.denotes, beq_eq_decide, decide_eq_decide, Config.denote_eq_none_iff]

/-- Settles O53: every command draws from the class of a triple that represents its multiple or its sum, and the
subgroup test asks whether the multiple is infinity. -/
theorem scalarMultiples : Obligations.ScalarMultiples := by
  unfold Obligations.ScalarMultiples
  simp only [List.mem_cons, List.not_mem_nil, or_false, Prod.mk.injEq]
  refine ⟨fun s rd ra rb g h hok => ⟨?mulSc, ?clrCof, ?inSub⟩, fun s rd ra rb imm8 g h ha hb hok => ?msm⟩
  case mulSc =>
    have hmul := (represents_residues h g ra).mulPoint h (s.getSc rb).toNat
    rintro i (⟨rfl, rfl⟩ | ⟨rfl, rfl⟩) <;>
      exact drawsPoint_of_represents h hmul (pointMulSc_inDomain s _ rd ra rb hok)
  case clrCof =>
    have hmul := (represents_residues h g ra).mulPoint h (cofactor s.cfg g)
    rintro i (⟨rfl, rfl⟩ | ⟨rfl, rfl⟩) <;>
      exact drawsPoint_of_represents h hmul (pointClrCof_inDomain s _ rd ra hok)
  case inSub =>
    rintro rfl
    rw [← z_beq_zero_of_represents ((represents_residues h .g2 ra).mulPoint h s.cfg.rOrd)]
    exact setsB_of_inDomain rfl hok
  case msm =>
    have hsum := Config.represents_sumMultiples h (l := List.range imm8.toNat)
      (k := fun k => (s.getSc (nthAfter rb k)).toNat) fun k _ => represents_residues h g (nthAfter ra k)
    have hw := msmOperands_eq_none ha hb
    rintro i (⟨rfl, rfl⟩ | ⟨rfl, rfl⟩) <;> exact drawsPoint_of_represents h hsum (pointMsm_ofRanges _ rd hw hok)

end Sys2Proof.Machine
end

section
/-! The digits of a Miller loop counter (R294, R295): the bits below the top one, and the non-adjacent form. -/
namespace Sys2Proof

/-! ### The non-adjacent form (R295) -/

/-- The digits of a number that the rounds suffice for have its value: a round leaves at most `2^fuel` of `2^(fuel+1)`. -/
theorem digitsValue_nafGo (fuel : Nat) : ∀ n : Nat, 1 ≤ n → n ≤ 2 ^ fuel → digitsValue (nafGo fuel n) = n := by
  induction fuel with
  | zero =>
    intro n h1 hn
    obtain rfl : n = 1 := by omega
    rfl
  | succ fuel ih =>
    intro n h1 hn
    rw [pow_succ] at hn
    unfold nafGo
    split_ifs with h2 heven hone
    · obtain rfl : n = 1 := by omega
      rfl
    · rw [digitsValue, ih _ (by omega) (by omega), Digit.toInt]
      omega
    · rw [digitsValue, ih _ (by omega) (by omega), Digit.toInt]
      omega
    · rw [digitsValue, ih _ (by omega) (by omega), Digit.toInt]
      omega

/-- Behind a non-zero digit the number is even, and the first digit of an even number is zero. -/
theorem nonAdjacent_cons_nafGo (d : Digit) {fuel n : Nat} (hn : n % 2 = 0) (h : NonAdjacent (nafGo fuel n)) :
    NonAdjacent (d :: nafGo fuel n) := by
  cases fuel with
  | zero => exact trivial
  | succ fuel =>
    unfold nafGo at h ⊢
    split_ifs at h ⊢
    · exact trivial
    · exact ⟨.inr rfl, h⟩

theorem nonAdjacent_zero_cons {l : List Digit} (h : NonAdjacent l) : NonAdjacent (.zero :: l) := by
  cases l with
  | nil => exact trivial
  | cons d rest => exact ⟨.inl rfl, h⟩

theorem nonAdjacent_nafGo (fuel : Nat) : ∀ n : Nat, NonAdjacent (nafGo fuel n) := by
  induction fuel with
  | zero => exact fun _ => trivial
  | succ fuel ih =>
    intro n
    unfold nafGo
    split_ifs
    · exact trivial
    · exact nonAdjacent_zero_cons (ih _)
    · exact nonAdjacent_cons_nafGo _ (by omega) (ih _)
    · exact nonAdjacent_cons_nafGo _ (by omega) (ih _)

/-- Settles O57: `bitLen n` rounds suffice, and a round leaves an even number behind a non-zero digit. -/
theorem nonAdjacentForm : Obligations.NonAdjacentForm := by
  unfold Obligations.NonAdjacentForm
  exact fun n h => ⟨digitsValue_nafGo _ n h (lt_two_pow_bitLen n).le, nonAdjacent_nafGo _ n⟩

/-! ### The bits below the top one (R294) -/

/-- The lowest `m` bits of a number whose top bit is bit `m` are its digits. -/
theorem digitsValue_bits (m : Nat) : ∀ n : Nat, n / 2 ^ m = 1 →
    digitsValue ((List.range m).map fun i => if n.testBit i then .plus else .zero) = n := by
  induction m with
  | zero =>
    intro n hn
    obtain rfl : n = 1 := by simpa using hn
    rfl
  | succ m ih =>
    intro n hn
    have hhalf : n / 2 / 2 ^ m = 1 := by rwa [Nat.div_div_eq_div_mul, ← Nat.pow_succ']
    have htail := ih (n / 2) hhalf
    simp only [Nat.testBit_div_two] at htail
    rw [List.range_succ_eq_map, List.map_cons, List.map_map, digitsValue]
    simp only [Function.comp_def, Nat.succ_eq_add_one, htail, Nat.testBit_zero, decide_eq_true_eq]
    split <;> simp only [Digit.toInt] <;> omega

theorem digitsValue_bitsBelowTop {n : Nat} (h : 1 ≤ n) : digitsValue (bitsBelowTop n).reverse = n := by
  have hn : n ≠ 0 := by omega
  have htop : n / 2 ^ n.log2 = 1 := by
    have hlt : n < 2 ^ n.log2 * 2 := Nat.lt_log2_self
    exact Nat.div_eq_of_lt_le (by simpa using Nat.log2_self_le hn) (by omega)
  rw [bitsBelowTop, ← List.map_reverse, List.reverse_reverse, bitLen, if_neg hn, Nat.add_sub_cancel]
  exact digitsValue_bits _ n htop

theorem minus_not_mem_bitsBelowTop (n : Nat) : Digit.minus ∉ bitsBelowTop n := by
  intro h
  obtain ⟨i, -, hi⟩ := List.mem_map.mp h
  split at hi <;> cases hi

end Sys2Proof
end

section
/-! The pair list (R310, R311, R312): dropped, refused or appended, and what the appended entry denotes. -/
namespace Sys2Proof.Machine

variable {s : State} {w : Word} {side : Fp → Fp} {ra rb : Idx}

theorem queue_infinite (hz : (s.getPoint .g1 ra).z = 0 ∨ (s.getPoint .g2 rb).z = 0) :
    queue w side ra rb s = .next s.counted := by
  rw [queue, if_pos hz, complete_eq]

section
variable (hp : (s.getPoint .g1 ra).z ≠ 0) (hq : (s.getPoint .g2 rb).z ≠ 0)
include hp hq

theorem queue_full (hfull : s.pairs.length = s.cfg.maxPairs) :
    queue w side ra rb s = .next (errorEntry .pairListFull w s) := by
  rw [queue, if_neg (not_or.mpr ⟨hp, hq⟩), if_pos hfull, raise_eq]

theorem queue_append {k : Pair Fp} (hroom : s.pairs.length ≠ s.cfg.maxPairs)
    (hk : queuedPair s side ra rb = some k) :
    queue w side ra rb s = .next { s with pairs := s.pairs ++ [k], cmdcnt := s.cmdcnt + 1 } := by
  rw [queue, if_neg (not_or.mpr ⟨hp, hq⟩), if_neg hroom, hk]
  rfl

end

/-- The entry of two finite points in the domain: the Montgomery forms of their affine coordinates. -/
theorem queuedPair_inDomain {p q : Affine Nat} (ha : s.pointOk .g1 ra = true) (hb : s.pointOk .g2 rb = true)
    (hp : s.cfg.denote (s.residues .g1 ra) = some p) (hq : s.cfg.denote (s.residues .g2 rb) = some q) :
    queuedPair s side ra rb = some ⟨s.cfg.enc p.x, side (s.cfg.enc p.y), s.cfg.enc q.x, s.cfg.enc q.y⟩ := by
  rw [queuedPair, ha, hb, affine_of_denote_some hp, affine_of_denote_some hq]
  rfl

/-- How a command treats `py`: `side` keeps values valid, and `residue` recovers what they denoted before. -/
structure SideDenotes (c : Config) (side : Fp → Fp) (residue : Nat → Nat) : Prop where
  valid : ∀ x : Fp, x.toNat < c.pMod → (side x).toNat < c.pMod
  cast : ∀ x : Fp, x.toNat < c.pMod → (residue (c.dec (side x)) : ZMod c.pMod) = c.dec x

theorem sideDenotes_id (c : Config) : SideDenotes c id id := ⟨fun _ hx => hx, fun _ _ => rfl⟩

/-- `p` minus the residue of the negative is the residue, modulo `p` (R133). -/
theorem sideDenotes_rawNeg {c : Config} (h : c.FieldLegal) : SideDenotes c (rawNeg c) (c.pMod - ·) := by
  refine ⟨fun x _ => of_decide_eq_true (valid_rawNeg h.sized_noBuffer x), fun x hx => ?_⟩
  have hzero : (c.dec (rawNeg c x) + c.dec x) % c.pMod = 0 := dec_rawNeg_add h.sized_noBuffer hx
  have hsum := congrArg (Nat.cast : Nat → ZMod c.pMod) hzero
  rw [ZMod.natCast_mod, Nat.cast_add, Nat.cast_zero] at hsum
  rw [Nat.cast_sub (Config.dec_lt h.prime.pos _).le, ZMod.natCast_self]
  linear_combination -hsum

/-- Two finite points in the domain, and room: the entry appended denotes the two points, `py` through its side. -/
theorem queue_affine {residue : Nat → Nat} (h : s.cfg.FieldLegal) (hside : SideDenotes s.cfg side residue)
    (hp : (s.getPoint .g1 ra).z ≠ 0) (hq : (s.getPoint .g2 rb).z ≠ 0) (hroom : s.pairs.length ≠ s.cfg.maxPairs)
    (ha : s.pointOk .g1 ra = true) (hb : s.pointOk .g2 rb = true) : ∃ k : Pair Fp, validPair s.cfg k = true ∧
      s.cfg.dec k.px * (s.residues .g1 ra).z ^ 2 % s.cfg.pMod = (s.residues .g1 ra).x ∧
      residue (s.cfg.dec k.py) * (s.residues .g1 ra).z ^ 3 % s.cfg.pMod = (s.residues .g1 ra).y ∧
      s.cfg.dec k.qx * (s.residues .g2 rb).z ^ 2 % s.cfg.pMod = (s.residues .g2 rb).x ∧
      s.cfg.dec k.qy * (s.residues .g2 rb).z ^ 3 % s.cfg.pMod = (s.residues .g2 rb).y ∧
      queue w side ra rb s = .next { s with pairs := s.pairs ++ [k], cmdcnt := s.cmdcnt + 1 } := by
  have hpos := h.prime.pos
  obtain ⟨a, hda, hax, hay, haX, haY⟩ := denote_coordinates h (reducedPoint_residues hpos .g1 ra)
    (mt (residues_z_eq_zero_iff h ha).mp hp)
  obtain ⟨b, hdb, hbx, hby, hbX, hbY⟩ := denote_coordinates h (reducedPoint_residues hpos .g2 rb)
    (mt (residues_z_eq_zero_iff h hb).mp hq)
  refine ⟨⟨s.cfg.enc a.x, side (s.cfg.enc a.y), s.cfg.enc b.x, s.cfg.enc b.y⟩, ?_, haX, ?_, hbX, hbY,
    queue_append hp hq hroom (queuedPair_inDomain ha hb hda hdb)⟩
  · simp only [validPair, valid, hax, hside.valid _ hay, hbx, hby, decide_true, Bool.and_self]
  · rw [← haY]
    refine Config.eq_of_cast_eq (Nat.mod_lt _ hpos) (Nat.mod_lt _ hpos) ?_
    rw [ZMod.natCast_mod, ZMod.natCast_mod, Nat.cast_mul, Nat.cast_mul, hside.cast _ hay]

/-- Settles O54: both commands queue through the same operation, each with its side of `py`. -/
theorem pairQueue : Obligations.PairQueue := by
  unfold Obligations.PairQueue
  simp only [List.forall_mem_cons, List.not_mem_nil, false_implies, implies_true, and_true]
  exact ⟨fun s => rfl, fun s ra rb =>
    ⟨⟨queue_infinite, queue_full, fun h hp hq hroom => queue_affine h (sideDenotes_id _) hp hq hroom⟩,
     ⟨queue_infinite, queue_full, fun h hp hq hroom => queue_affine h (sideDenotes_rawNeg h) hp hq hroom⟩⟩⟩

end Sys2Proof.Machine
end

section
/-! The final exponentiation (R303 to R305, R316 to R318): the exponents of its parts, in the ring of the towers. -/
namespace Sys2Proof.Config

/-! ### The exponents -/

/-- `p⁶ − 1 = (p³ − 1)(p + 1)(p² − p + 1)` (R304, R305). -/
theorem easy_mul_cyclotomic {p : Nat} (hp : 1 ≤ p) : (p ^ 3 - 1) * (p + 1) * (p ^ 2 - p + 1) = p ^ 6 - 1 := by
  have h3 := Nat.one_le_pow 3 p hp
  have h6 := Nat.one_le_pow 6 p hp
  have h2 : p ≤ p ^ 2 := Nat.le_self_pow (by decide) p
  zify [h3, h6, h2]
  ring

/-- The exponent of the two parts together (R303). -/
theorem easy_mul_hard {p r : Nat} (m : Nat) (hp : 1 ≤ p) (hr : r ∣ p ^ 2 - p + 1) :
    (p ^ 3 - 1) * (p + 1) * (m * ((p ^ 2 - p + 1) / r)) = m * ((p ^ 6 - 1) / r) := by
  rw [← easy_mul_cyclotomic hp, Nat.mul_div_assoc _ hr]
  ring

variable {c : Config} {f : SexticElt Nat}

theorem power6_eq_one_iff (hp : 1 < c.pMod) (e : Nat) : c.power6 f e = c.one6 ↔ c.value6 f ^ e = 1 := by
  have hpos := Nat.zero_lt_of_lt hp
  rw [← value6_power6, ← value6_one6]
  exact ⟨congrArg c.value6, value6_injective hp (reduced6_power6 hpos f e) (reduced6_one6 hpos)⟩

/-! ### Powers of a non-zero element -/

theorem value6_pow_mul_inv6 (h : c.FieldLegal) (hf : c.Reduced6 f) (hne : f ≠ zero6) {k : Nat} (hk : 1 ≤ k) :
    c.value6 f ^ k * c.value6 (c.inv6 f) = c.value6 f ^ (k - 1) := by
  conv_lhs => rw [← Nat.sub_add_cancel hk]
  rw [pow_succ (c.value6 f), mul_assoc, value6_mul_inv6 h hf hne, mul_one]

/-- Six Frobenius maps are the identity, so the power by `p⁶ − 1` is one. -/
theorem value6_pow_order (h : c.FieldLegal) (hf : c.Reduced6 f) (hne : f ≠ zero6) :
    c.value6 f ^ (c.pMod ^ 6 - 1) = 1 := by
  have hcycle : c.value6 f ^ c.pMod ^ 6 = c.value6 f := by
    rw [← value6_frob6 h, show c.frob6 f 6 = c.frob6 f 0 from rfl, value6_frob6 h, pow_zero, pow_one]
  rw [← value6_pow_mul_inv6 h hf hne (Nat.one_le_pow _ _ h.prime.pos), hcycle, value6_mul_inv6 h hf hne]

/-! ### The easy part (R304) -/

/-- Conjugate over element is the power by `p³ − 1`, zero for zero. -/
theorem value6_conj6_mul_inv6 (h : c.FieldLegal) (hf : c.Reduced6 f) :
    c.value6 (c.mul6 (c.conj6 f) (c.inv6 f)) = c.value6 f ^ (c.pMod ^ 3 - 1) := by
  rw [value6_mul6]
  by_cases hne : f = zero6
  · have hexp : c.pMod ^ 3 - 1 ≠ 0 := by
      have := Nat.one_lt_pow (n := 3) (by decide) h.prime.one_lt
      omega
    have hzero : c.value6 zero6 = 0 := by rw [zero6, value6_ofCubic, value3_zero3]
    rw [hne, inv6_zero6, hzero, mul_zero, zero_pow hexp]
  · rw [← frob6_three h hf, value6_frob6 h, value6_pow_mul_inv6 h hf hne (Nat.one_le_pow _ _ h.prime.pos)]

theorem value6_easyPart (h : c.FieldLegal) (hf : c.Reduced6 f) :
    c.value6 (c.easyPart f) = c.value6 f ^ ((c.pMod ^ 3 - 1) * (c.pMod + 1)) := by
  rw [easyPart, value6_mul6, value6_frob6 h, value6_conj6_mul_inv6 h hf, pow_one, ← pow_succ, ← pow_mul]

theorem easyPart_eq_power6 (h : c.FieldLegal) (hf : c.Reduced6 f) :
    c.easyPart f = c.power6 f ((c.pMod ^ 3 - 1) * (c.pMod + 1)) := by
  have hpos := h.prime.pos
  refine value6_injective h.prime.one_lt (reduced6_mul6 hpos ..) (reduced6_power6 hpos ..) ?_
  rw [value6_easyPart h hf, value6_power6]

/-- The easy part of a non-zero element lies in the cyclotomic subgroup. -/
theorem power6_easyPart_cyclotomic (h : c.FieldLegal) (hf : c.Reduced6 f) (hne : f ≠ zero6) :
    c.power6 (c.easyPart f) (c.pMod ^ 2 - c.pMod + 1) = c.one6 := by
  rw [power6_eq_one_iff h.prime.one_lt, value6_easyPart h hf, ← pow_mul, easy_mul_cyclotomic h.prime.pos,
    value6_pow_order h hf hne]

/-! ### The hard part and the whole (R303, R305) -/

theorem hardPart_eq_power6 (hp : 1 < c.pMod) (g : SexticElt Nat) :
    c.hardPart g = c.power6 g (c.hardMult * ((c.pMod ^ 2 - c.pMod + 1) / c.rOrd)) := by
  rw [hardPart, pow6_eq_power6 hp, hardExponent, pow_two]

theorem reduced6_finalExp (hp : 1 < c.pMod) (f : SexticElt Nat) : c.Reduced6 (c.finalExp f) := by
  rw [finalExp, hardPart_eq_power6 hp]
  exact reduced6_power6 (Nat.zero_lt_of_lt hp) _ _

theorem value6_finalExp (h : c.FieldLegal) (hf : c.Reduced6 f) (hr : c.rOrd ∣ c.pMod ^ 2 - c.pMod + 1) :
    c.value6 (c.finalExp f) = c.value6 f ^ (c.hardMult * ((c.pMod ^ 6 - 1) / c.rOrd)) := by
  rw [finalExp, hardPart_eq_power6 h.prime.one_lt, value6_power6, value6_easyPart h hf, ← pow_mul,
    easy_mul_hard _ h.prime.pos hr]

theorem finalExp_eq_power6 (h : c.FieldLegal) (hf : c.Reduced6 f) (hr : c.rOrd ∣ c.pMod ^ 2 - c.pMod + 1) :
    c.finalExp f = c.power6 f (c.hardMult * ((c.pMod ^ 6 - 1) / c.rOrd)) := by
  have hp := h.prime.one_lt
  refine value6_injective hp (reduced6_finalExp hp f) (reduced6_power6 h.prime.pos ..) ?_
  rw [value6_finalExp h hf hr, value6_power6]

/-! ### A legal order and multiplier (R10, R305) -/

section
variable (h : c.FieldLegal) (ho : c.OrderLegal) (hf : c.Reduced6 f) (hne : f ≠ zero6)
include h ho hf hne

/-- The power by `(p⁶ − 1)/r` is an `r`-th root of one. -/
theorem value6_pow_cofactor_pow_rOrd : (c.value6 f ^ ((c.pMod ^ 6 - 1) / c.rOrd)) ^ c.rOrd = 1 := by
  have hdvd : c.rOrd ∣ c.pMod ^ 6 - 1 := easy_mul_cyclotomic h.prime.pos ▸ ho.divides.mul_left _
  rw [← pow_mul, Nat.div_mul_cancel hdvd, value6_pow_order h hf hne]

theorem power6_finalExp_rOrd : c.power6 (c.finalExp f) c.rOrd = c.one6 := by
  rw [power6_eq_one_iff h.prime.one_lt, value6_finalExp h hf ho.divides, mul_comm, pow_mul (c.value6 f),
    pow_right_comm, value6_pow_cofactor_pow_rOrd h ho hf hne, one_pow]

/-- The multiplier is coprime to `r`, so it takes no other `r`-th root of one to one. -/
theorem finalExp_eq_one_iff :
    c.finalExp f = c.one6 ↔ c.power6 f ((c.pMod ^ 6 - 1) / c.rOrd) = c.one6 := by
  have hroot := value6_pow_cofactor_pow_rOrd h ho hf hne
  rw [finalExp_eq_power6 h hf ho.divides, power6_eq_one_iff h.prime.one_lt, power6_eq_one_iff h.prime.one_lt,
    mul_comm, pow_mul (c.value6 f)]
  refine ⟨fun hmult => ?_, fun hone => by rw [hone, one_pow]⟩
  have hgcd := pow_gcd_eq_one.mpr ⟨hmult, hroot⟩
  rwa [ho.multCoprime, pow_one] at hgcd

end
end Sys2Proof.Config

namespace Sys2Proof.Machine

section
variable {s : State} {rd ra : Idx} (ha : (s.getFp6 ra).all (valid s.cfg) = true)
include ha

theorem setsFp6_fexpEasy :
    SetsFp6 (.fexpEasy rd ra) s rd (s.cfg.enc6 (s.cfg.easyPart (s.cfg.dec6 (s.getFp6 ra)))) := by
  simp only [SetsFp6, exec, execFexpEasy, fp6Unary_inDomain s _ rd ra ha]

theorem setsFp6_fexpHard (hcyc : s.cfg.isCyclotomic (s.cfg.dec6 (s.getFp6 ra)) = true) :
    SetsFp6 (.fexpHard rd ra) s rd (s.cfg.enc6 (s.cfg.hardPart (s.cfg.dec6 (s.getFp6 ra)))) := by
  simp only [SetsFp6, exec, execFexpHard, ha, hcyc, Bool.and_self, inDomain_true, State.putFp6, complete_eq]

theorem setsFp6_fexp (hne : s.cfg.dec6 (s.getFp6 ra) ≠ Config.zero6) :
    SetsFp6 (.fexp rd ra) s rd (s.cfg.enc6 (s.cfg.finalExp (s.cfg.dec6 (s.getFp6 ra)))) := by
  simp only [SetsFp6, exec, execFexp, ha, bne_iff_ne.mpr hne, Bool.and_self, inDomain_true, State.putFp6, complete_eq]

end

/-- Settles O56: each command writes the Montgomery form of its part, and each part is a power in the ring of the
towers, where a non-zero element to the power `p⁶ − 1` is one. -/
theorem finalExponentiation : Obligations.FinalExponentiation := by
  unfold Obligations.FinalExponentiation
  intro s rd ra h ha
  have hpos := h.prime.pos
  have hp := h.prime.one_lt
  have hf := Config.reduced6_dec6 hpos (s.getFp6 ra)
  refine ⟨?easy, fun hcyc => ?hard, fun hne hr => ?whole, fun hne ho =>
    ⟨Config.power6_finalExp_rOrd h ho hf hne, Config.finalExp_eq_one_iff h ho hf hne⟩⟩
  case easy =>
    have hden := denotes6_enc6 h.enc_denotes
      (Config.reduced6_power6 hpos (s.cfg.dec6 (s.getFp6 ra)) ((s.cfg.pMod ^ 3 - 1) * (s.cfg.pMod + 1)))
    refine ⟨_, hden, fun hne => ?_, ?_⟩
    · rw [dec6_eq_of_denotes6 hden, ← Config.easyPart_eq_power6 h hf, Config.power6_easyPart_cyclotomic h hf hne]
    · rw [← Config.easyPart_eq_power6 h hf]
      exact setsFp6_fexpEasy ha
  case hard =>
    rw [← Config.hardPart_eq_power6 hp]
    refine ⟨_, denotes6_enc6 h.enc_denotes ?_, setsFp6_fexpHard ha ((isCyclotomic_iff hp _).mpr hcyc)⟩
    rw [Config.hardPart_eq_power6 hp]
    exact Config.reduced6_power6 hpos _ _
  case whole =>
    exact ⟨Config.finalExp_eq_power6 h hf hr, _,
      denotes6_enc6 h.enc_denotes (Config.reduced6_finalExp hp _), setsFp6_fexp ha hne⟩

end Sys2Proof.Machine
end

section
/-! The doubling and addition steps of the Miller loop (R298, R299): homogeneous triples `(X, Y, Z)` over the affine
point `(X/Z, Y/Z)`, the chord-and-tangent law that the new running points denote, and the line coefficients. -/
namespace Sys2Proof.Config

variable {c : Config}

/-! ### The slope of the chord and of the tangent (R222) -/

theorem exists_groupAdd_chord (hp : c.pMod.Prime) {a b : Affine Nat} (hax : a.x < c.pMod) (hay : a.y < c.pMod)
    (hbx : b.x < c.pMod) (hne : a.x ≠ b.x) : ∃ m : Nat, (m * (b.x - a.x) : ZMod c.pMod) = b.y - a.y ∧
      c.groupAdd (some a) (some b) = some (c.thirdPoint m a b) := by
  have := Fact.mk hp
  have hd : (b.x - a.x : ZMod c.pMod) ≠ 0 := fun h0 => hne (eq_of_cast_eq hax hbx (sub_eq_zero.mp h0).symm)
  refine ⟨_, ?_, by rw [groupAdd, if_pos hne]⟩
  rw [cast_mul, cast_inv hp (by rwa [cast_sub hax.le]), cast_sub hay.le, cast_sub hax.le, inv_mul_cancel_right₀ hd]

theorem exists_groupAdd_tangent (h : c.FieldLegal) {a : Affine Nat} (hay : a.y < c.pMod) (h0 : a.y ≠ 0) :
    ∃ m : Nat, (m * (2 * a.y) : ZMod c.pMod) = 3 * a.x ^ 2 ∧
      c.groupAdd (some a) (some a) = some (c.thirdPoint m a a) := by
  have := Fact.mk h.prime
  have hden : (2 * a.y : ZMod c.pMod) ≠ 0 := mul_ne_zero h.cast_two_ne_zero ((cast_ne_zero_iff hay).mpr h0)
  refine ⟨_, ?_, by rw [groupAdd, if_neg (not_not.mpr rfl), if_pos ⟨rfl, h0⟩]⟩
  rw [cast_mul, cast_inv h.prime (by rwa [cast_mul, Nat.cast_ofNat]), cast_mul, cast_mul, cast_sq, Nat.cast_ofNat,
    Nat.cast_ofNat, inv_mul_cancel_right₀ hden, pow_two]

/-! ### Homogeneous triples -/

theorem denoteHom_eq_none_iff {t : Point Nat} : c.denoteHom t = none ↔ t.z = 0 := by
  unfold denoteHom
  split <;> simp_all

theorem denoteHom_eq_none_of_cast (h : 0 < c.pMod) {t : Point Nat} (hz : t.z < c.pMod)
    (h0 : (t.z : ZMod c.pMod) = 0) : c.denoteHom t = none :=
  denoteHom_eq_none_iff.mpr (eq_of_cast_eq hz h (by rw [h0, Nat.cast_zero]))

/-- The triple is finite and stands over the affine point in homogeneous coordinates: an equation without an inverse. -/
structure OverHom (c : Config) (t : Point Nat) (a : Affine Nat) : Prop where
  finite : (t.z : ZMod c.pMod) ≠ 0
  x : (t.x : ZMod c.pMod) = a.x * t.z
  y : (t.y : ZMod c.pMod) = a.y * t.z

/-- A finite triple stands over the affine point it denotes. -/
theorem exists_overHom (hp : c.pMod.Prime) {t : Point Nat} (hz : t.z < c.pMod) (hne : t.z ≠ 0) :
    ∃ a : Affine Nat, c.denoteHom t = some a ∧ a.x < c.pMod ∧ a.y < c.pMod ∧ c.OverHom t a := by
  have := Fact.mk hp
  have hzne := (cast_ne_zero_iff hz).mpr hne
  refine ⟨_, by rw [denoteHom, if_neg hne], mul_lt hp.pos _ _, mul_lt hp.pos _ _, hzne, ?_, ?_⟩ <;>
    rw [cast_mul, cast_inv hp hzne, inv_mul_cancel_right₀ hzne]

/-- The triple in Jacobian coordinates of the same affine point. -/
def jacobianOf (c : Config) (t : Point Nat) : Point Nat := ⟨c.mul t.x t.z, c.mul t.y (c.sq t.z), t.z⟩

theorem denoteHom_eq_denote (hp : c.pMod.Prime) {t : Point Nat} (hz : t.z < c.pMod) :
    c.denoteHom t = c.denote (c.jacobianOf t) := by
  have := Fact.mk hp
  by_cases hne : t.z = 0
  · rw [denoteHom_eq_none_iff.mpr hne, eq_comm]
    exact denote_eq_none_iff.mpr hne
  · have hzne := (cast_ne_zero_iff hz).mpr hne
    rw [denoteHom, if_neg hne, eq_comm, denote_eq_some]
    refine ⟨hne, affine_ext_iff.mpr ⟨eq_of_cast_eq (mul_lt hp.pos _ _) (mul_lt hp.pos _ _) ?_,
      eq_of_cast_eq (mul_lt hp.pos _ _) (mul_lt hp.pos _ _) ?_⟩⟩ <;>
    · simp only [jacobianOf, cast_mul, cast_sq, cast_inv hp hzne]
      field_simp

/-- A homogeneous triple stands over the third point of slope `m` when it satisfies the equations of the law, cleared
of the denominator. -/
theorem denoteHom_eq_thirdPoint (hp : c.pMod.Prime) {m : Nat} {a b : Affine Nat} {t : Point Nat} (hz : t.z < c.pMod)
    (hne : (t.z : ZMod c.pMod) ≠ 0) (hax : a.x < c.pMod) (hay : a.y < c.pMod) (hbx : b.x < c.pMod)
    (hX : (t.x : ZMod c.pMod) = (m ^ 2 - a.x - b.x) * t.z)
    (hY : (t.y : ZMod c.pMod) = (m * (a.x - (m ^ 2 - a.x - b.x)) - a.y) * t.z) :
    c.denoteHom t = some (c.thirdPoint m a b) := by
  rw [denoteHom_eq_denote hp hz]
  refine denote_eq_thirdPoint hp hz hne hax hay hbx ?_ ?_ <;> simp only [jacobianOf, cast_mul, cast_sq]
  · rw [hX]
    ring
  · rw [hY]
    ring

/-! ### Lines (R300) -/

/-- A line of residues from its coefficients modulo `p`. -/
theorem line_eq_of_cast (h : 0 < c.pMod) {l : Line} (hl : l.konst < c.pMod ∧ l.ofPx < c.pMod ∧ l.ofPy < c.pMod)
    {k x y : Nat} (hk : (l.konst : ZMod c.pMod) = k) (hx : (l.ofPx : ZMod c.pMod) = x)
    (hy : (l.ofPy : ZMod c.pMod) = y) : l = ⟨k % c.pMod, x % c.pMod, y % c.pMod⟩ := by
  obtain ⟨l0, l1, l2⟩ := l
  obtain ⟨h0, h1, h2⟩ := hl
  have hmod {a b : Nat} (ha : a < c.pMod) (hab : (a : ZMod c.pMod) = b) : a = b % c.pMod :=
    eq_of_cast_eq ha (Nat.mod_lt _ h) (by rw [hab, ZMod.natCast_mod])
  exact congr (congr (congrArg Line.mk (hmod h0 hk)) (hmod h1 hx)) (hmod h2 hy)

theorem cast_pMod_sub_one (h : 0 < c.pMod) : ((c.pMod - 1 : Nat) : ZMod c.pMod) = -1 := by
  rw [Nat.cast_pred h, ZMod.natCast_self, zero_sub]

/-! ### The doubling step (R298) -/

section
variable (t : Point Nat)

theorem cast_doublingStep (h : 0 < c.pMod) :
    ((c.doublingStep t).1.x : ZMod c.pMod) = 2 * t.x * t.y * (t.y ^ 2 - 9 * c.bG2 * t.z ^ 2) ∧
    ((c.doublingStep t).1.y : ZMod c.pMod) =
      (t.y ^ 2 + 9 * c.bG2 * t.z ^ 2) ^ 2 - 12 * (3 * c.bG2 * t.z ^ 2) ^ 2 ∧
    ((c.doublingStep t).1.z : ZMod c.pMod) = 8 * t.y ^ 3 * t.z := by
  simp only [doublingStep, cast_sub (mul_lt h _ _).le, cast_sub (add_lt h _ _).le, cast_add, cast_mul, cast_sq,
    Nat.cast_ofNat]
  refine ⟨?_, ?_, ?_⟩ <;> ring

theorem doublingStep_line (h : 0 < c.pMod) : (c.doublingStep t).2 =
    ⟨(3 * c.bG2 * t.z ^ 2 + (c.pMod - 1) * t.y ^ 2) % c.pMod, 3 * t.x ^ 2 % c.pMod,
      (c.pMod - 1) * (2 * t.y * t.z) % c.pMod⟩ := by
  refine line_eq_of_cast h ⟨sub_lt h _ _, mul_lt h _ _, neg_lt h _⟩ ?_ ?_ ?_ <;>
  · simp only [doublingStep, cast_sub (sq_lt h _).le, cast_sub (add_lt h _ _).le, cast_neg (sub_lt h _ _).le, cast_add,
      cast_mul, cast_sq, Nat.cast_ofNat, Nat.cast_add, Nat.cast_mul, Nat.cast_pow, cast_pMod_sub_one h]
    ring

end

/-- The curve equation fixes the constant by the affine point. -/
theorem OverHom.cast_bG2 (hp : c.pMod.Prime) {t : Point Nat} {a : Affine Nat} (ht : c.OverHom t a)
    (hcurve : (t.y ^ 2 * t.z : ZMod c.pMod) = t.x ^ 3 + c.bG2 * t.z ^ 3) :
    (c.bG2 : ZMod c.pMod) = a.y ^ 2 - a.x ^ 3 := by
  have := Fact.mk hp
  obtain ⟨hz, hx, hy⟩ := ht
  refine mul_right_cancel₀ (pow_ne_zero 3 hz) ?_
  rw [hx, hy] at hcurve
  linear_combination -hcurve

/-- A finite running point with a tangent that is not vertical: the tangent law. -/
theorem denoteHom_doublingStep_tangent (h : c.FieldLegal) {t : Point Nat} {a : Affine Nat} (ht : c.OverHom t a)
    (hax : a.x < c.pMod) (hay : a.y < c.pMod) (h0 : a.y ≠ 0) (hb : (c.bG2 : ZMod c.pMod) = a.y ^ 2 - a.x ^ 3) :
    c.denoteHom (c.doublingStep t).1 = c.groupAdd (some a) (some a) := by
  have hp := h.prime
  have := Fact.mk hp
  obtain ⟨hz, hx, hy⟩ := ht
  obtain ⟨hX, hY, hZ⟩ := cast_doublingStep t hp.pos
  obtain ⟨m, hslope, hsum⟩ := exists_groupAdd_tangent h hay h0
  rw [hx, hy, hb] at hX
  rw [hy, hb] at hY
  rw [hy] at hZ
  rw [hsum]
  refine denoteHom_eq_thirdPoint hp (mul_lt hp.pos _ _) ?_ hax hay hax ?_ ?_
  · have h8 : (8 : ZMod c.pMod) = 2 ^ 3 := by norm_num
    have hyz : (a.y * t.z : ZMod c.pMod) ≠ 0 := mul_ne_zero ((cast_ne_zero_iff hay).mpr h0) hz
    rw [hZ, h8]
    exact mul_ne_zero (mul_ne_zero (pow_ne_zero 3 h.cast_two_ne_zero) (pow_ne_zero 3 hyz)) hz
  · rw [hX, hZ]
    linear_combination -2 * a.y * t.z ^ 4 * (3 * a.x ^ 2 + 2 * m * a.y : ZMod c.pMod) * hslope
  · rw [hY, hZ]
    linear_combination t.z ^ 4 * ((2 * m * a.y) ^ 2 + 6 * m * a.x ^ 2 * a.y + 9 * a.x ^ 4 - 12 * a.x * a.y ^ 2 :
      ZMod c.pMod) * hslope

/-- The new running point is the double, for a running point on the G2 curve, infinity and the points with a vertical
tangent included. -/
theorem denoteHom_doublingStep (h : c.FieldLegal) {t : Point Nat} (hz : t.z < c.pMod)
    (hcurve : (t.y ^ 2 * t.z : ZMod c.pMod) = t.x ^ 3 + c.bG2 * t.z ^ 3) :
    c.denoteHom (c.doublingStep t).1 = c.groupAdd (c.denoteHom t) (c.denoteHom t) := by
  have hp := h.prime
  obtain ⟨-, -, hZ⟩ := cast_doublingStep t hp.pos
  have hz3 : (c.doublingStep t).1.z < c.pMod := mul_lt hp.pos _ _
  by_cases hne : t.z = 0
  · rw [hne, Nat.cast_zero, mul_zero] at hZ
    rw [denoteHom_eq_none_iff.mpr hne, denoteHom_eq_none_of_cast hp.pos hz3 hZ, groupAdd]
  obtain ⟨a, ha, hax, hay, hover⟩ := exists_overHom hp hz hne
  rw [ha]
  by_cases h0 : a.y = 0
  · rw [hover.y, h0, Nat.cast_zero, zero_mul, zero_pow (by decide), mul_zero, zero_mul] at hZ
    rw [denoteHom_eq_none_of_cast hp.pos hz3 hZ, groupAdd, if_neg (not_not.mpr rfl), if_neg (fun hd => hd.2 h0)]
  · exact denoteHom_doublingStep_tangent h hover hax hay h0 (hover.cast_bG2 hp hcurve)

/-! ### The addition step (R299) -/

section
variable (t : Point Nat)

/-- With `λ = X − qx·Z` and `θ = Y − qy·Z`. -/
theorem cast_additionStep (h : 0 < c.pMod) (qx qy : Nat) :
    let la : ZMod c.pMod := t.x - qx * t.z
    let th : ZMod c.pMod := t.y - qy * t.z
    ((c.additionStep t qx qy).1.x : ZMod c.pMod) = la * (la ^ 3 + t.z * th ^ 2 - 2 * t.x * la ^ 2) ∧
    ((c.additionStep t qx qy).1.y : ZMod c.pMod) =
      th * (3 * t.x * la ^ 2 - la ^ 3 - t.z * th ^ 2) - la ^ 3 * t.y ∧
    ((c.additionStep t qx qy).1.z : ZMod c.pMod) = t.z * la ^ 3 := by
  simp only [additionStep, cast_sub (mul_lt h _ _).le, cast_sub (sub_lt h _ _).le, cast_add, cast_mul, cast_sq,
    Nat.cast_ofNat]
  refine ⟨?_, ?_, ?_⟩ <;> ring

theorem additionStep_line (h : 0 < c.pMod) (qx qy : Nat) : (c.additionStep t qx qy).2 =
    ⟨(t.y * qx + (c.pMod - 1) * (t.x * qy)) % c.pMod, (qy * t.z + (c.pMod - 1) * t.y) % c.pMod,
      (t.x + (c.pMod - 1) * (qx * t.z)) % c.pMod⟩ := by
  refine line_eq_of_cast h ⟨sub_lt h _ _, neg_lt h _, sub_lt h _ _⟩ ?_ ?_ ?_ <;>
  · simp only [additionStep, cast_sub (mul_lt h _ _).le, cast_neg (sub_lt h _ _).le, cast_mul, Nat.cast_add,
      Nat.cast_mul, cast_pMod_sub_one h]
    ring

/-- Where `λ` is zero, so are `x` and `z` of the new running point. -/
theorem additionStep_of_equal_x (h : 0 < c.pMod) {qx : Nat} (hx : t.x = qx * t.z % c.pMod) (qy : Nat) :
    (c.additionStep t qx qy).1.x = 0 ∧ (c.additionStep t qx qy).1.z = 0 := by
  have hla : (t.x - qx * t.z : ZMod c.pMod) = 0 := by rw [hx, ZMod.natCast_mod, Nat.cast_mul, sub_self]
  obtain ⟨hX, -, hZ⟩ := cast_additionStep t h qx qy
  rw [hla] at hX hZ
  refine ⟨eq_of_cast_eq (mul_lt h _ _) h ?_, eq_of_cast_eq (mul_lt h _ _) h ?_⟩
  · rw [hX, zero_mul, Nat.cast_zero]
  · rw [hZ, zero_pow (by decide), mul_zero, Nat.cast_zero]

end

/-- The new running point is the sum, for a finite running point with another `x`. -/
theorem denoteHom_additionStep (h : c.FieldLegal) {t : Point Nat} {qx qy : Nat} (hz : t.z < c.pMod)
    (hxlt : t.x < c.pMod) (hqx : qx < c.pMod) (hne : t.z ≠ 0) (hla : t.x ≠ qx * t.z % c.pMod) :
    c.denoteHom (c.additionStep t qx qy).1 = c.groupAdd (c.denoteHom t) (some ⟨qx, qy⟩) := by
  have hp := h.prime
  have := Fact.mk hp
  obtain ⟨hX, hY, hZ⟩ := cast_additionStep t hp.pos qx qy
  obtain ⟨a, ha, hax, hay, hzne, hx, hy⟩ := exists_overHom hp hz hne
  have hxne : a.x ≠ qx := fun e =>
    hla (eq_of_cast_eq hxlt (Nat.mod_lt _ hp.pos) (by rw [hx, e, ZMod.natCast_mod, Nat.cast_mul]))
  obtain ⟨m, hslope, hsum⟩ := exists_groupAdd_chord (b := ⟨qx, qy⟩) hp hax hay hqx hxne
  have hdiff : (a.x - qx : ZMod c.pMod) ≠ 0 := fun h0 => hxne (eq_of_cast_eq hax hqx (sub_eq_zero.mp h0))
  have hth : (t.y - qy * t.z : ZMod c.pMod) = m * (t.x - qx * t.z) := by
    rw [hx, hy]
    linear_combination (t.z : ZMod c.pMod) * hslope
  rw [hth, hx] at hX
  rw [hth, hx, hy] at hY
  rw [hx] at hZ
  rw [ha, hsum]
  refine denoteHom_eq_thirdPoint hp (mul_lt hp.pos _ _) ?_ hax hay hqx ?_ ?_
  · rw [hZ, ← sub_mul]
    exact mul_ne_zero hzne (pow_ne_zero 3 (mul_ne_zero hdiff hzne))
  · rw [hX, hZ]
    ring
  · rw [hY, hZ]
    ring

end Sys2Proof.Config
end

section
/-! The Miller loop (R296, R301): the accumulator over a list of pairs is the product of the accumulators of the pairs
alone, since squaring and line evaluation are products in Fp6. -/
namespace Sys2Proof.Config

variable {c : Config}

/-! ### Products in Fp6 -/

theorem one6_mul6_of_reduced (hp : 1 < c.pMod) {a : SexticElt Nat} (ha : c.Reduced6 a) : c.mul6 c.one6 a = a := by
  refine value6_injective hp (reduced6_mul6 (Nat.zero_lt_of_lt hp) ..) ha ?_
  rw [value6_mul6, value6_one6, one_mul]

theorem mul6_right_comm (h : 0 < c.pMod) (a b d : SexticElt Nat) :
    c.mul6 (c.mul6 a b) d = c.mul6 (c.mul6 a d) b := by
  rw [mul6_assoc h, mul6_comm h b d, ← mul6_assoc h]

theorem sq6_mul6 (h : 0 < c.pMod) (a b : SexticElt Nat) : c.sq6 (c.mul6 a b) = c.mul6 (c.sq6 a) (c.sq6 b) := by
  rw [sq6, ← mul6_assoc h, mul6_right_comm h a b a, mul6_assoc h]
  rfl

/-- The sparse element holds the coefficients where R301 places them. -/
theorem ell_eq (f : SexticElt Nat) (l : Line) (px py : Nat) :
    c.ell f l px py = c.mul6 f (match c.twist with
      | .mType => ⟨⟨l.konst, l.ofPx * px % c.pMod, 0⟩, ⟨0, l.ofPy * py % c.pMod, 0⟩⟩
      | .dType => ⟨⟨l.ofPy * py % c.pMod, 0, 0⟩, ⟨l.ofPx * px % c.pMod, l.konst, 0⟩⟩) := by
  unfold ell lineAt
  cases c.twist <;> rfl

/-! ### One digit -/

/-- A step for one pair multiplies the accumulator, and its running point does not depend on it. -/
theorem pairStep_mul6 (h : 0 < c.pMod) (d : Digit) (k : Pair Nat) (g f : SexticElt Nat) (t : Point Nat) :
    c.pairStep d k (c.mul6 g f) t = (c.mul6 g (c.pairStep d k f t).1, (c.pairStep d k f t).2) := by
  cases d <;> simp only [pairStep, ell, mul6_assoc h]

/-- One digit of the loop for one pair: square, then the step of that pair. -/
theorem loopOf_cons (k : Pair Nat) (d : Digit) (ds : List Digit) :
    c.loopOf k (d :: ds) = c.pairStep d k (c.sq6 (c.loopOf k ds).1) (c.loopOf k ds).2 := by
  cases d <;> rfl

/-- The pairs with their running points after the digits. -/
def runningPoints (c : Config) (pairs : List (Pair Nat)) (ds : List Digit) : List (Pair Nat × Point Nat) :=
  pairs.map fun k => (k, (c.loopOf k ds).2)

theorem runningPoints_cons (k : Pair Nat) (pairs : List (Pair Nat)) (ds : List Digit) :
    c.runningPoints (k :: pairs) ds = (k, (c.loopOf k ds).2) :: c.runningPoints pairs ds := rfl

theorem allPairs_cons (d : Digit) (f : SexticElt Nat) (k : Pair Nat) (t : Point Nat)
    (rest : List (Pair Nat × Point Nat)) : c.allPairs d f ((k, t) :: rest) =
      ((c.allPairs d (c.pairStep d k f t).1 rest).1,
        (k, (c.pairStep d k f t).2) :: (c.allPairs d (c.pairStep d k f t).1 rest).2) := rfl

theorem productOfLoops_cons (k : Pair Nat) (pairs : List (Pair Nat)) (ds : List Digit) :
    c.productOfLoops (k :: pairs) ds = c.mul6 (c.loopOf k ds).1 (c.productOfLoops pairs ds) := rfl

theorem reduced6_productOfLoops (h : 0 < c.pMod) (pairs : List (Pair Nat)) (ds : List Digit) :
    c.Reduced6 (c.productOfLoops pairs ds) := by
  cases pairs with
  | nil => exact reduced6_one6 h
  | cons k pairs => exact reduced6_mul6 h _ _

/-- One digit for all pairs, on the square of the product so far times any element. -/
theorem allPairs_mul6_sq6 (hp : 1 < c.pMod) (d : Digit) (ds : List Digit) (pairs : List (Pair Nat)) :
    ∀ g, c.allPairs d (c.mul6 g (c.sq6 (c.productOfLoops pairs ds))) (c.runningPoints pairs ds) =
      (c.mul6 g (c.productOfLoops pairs (d :: ds)), c.runningPoints pairs (d :: ds)) := by
  have hpos := Nat.zero_lt_of_lt hp
  induction pairs with
  | nil =>
    intro g
    have hone : c.sq6 c.one6 = c.one6 := one6_mul6_of_reduced hp (reduced6_one6 hpos)
    change (c.mul6 g (c.sq6 c.one6), _) = _
    rw [hone]
    rfl
  | cons k pairs ih =>
    intro g
    have hstep : c.pairStep d k (c.mul6 g (c.sq6 (c.productOfLoops (k :: pairs) ds))) (c.loopOf k ds).2 =
        (c.mul6 (c.mul6 g (c.loopOf k (d :: ds)).1) (c.sq6 (c.productOfLoops pairs ds)), (c.loopOf k (d :: ds)).2) := by
      rw [productOfLoops_cons, sq6_mul6 hpos, mul6_comm hpos (c.sq6 _), ← mul6_assoc hpos, pairStep_mul6 hpos,
        ← loopOf_cons, mul6_right_comm hpos]
    rw [runningPoints_cons, allPairs_cons, hstep, ih, mul6_assoc hpos, ← productOfLoops_cons, runningPoints_cons]

/-! ### The loop -/

theorem allPairs_sq6 (hp : 1 < c.pMod) (d : Digit) (ds : List Digit) (pairs : List (Pair Nat)) :
    c.allPairs d (c.sq6 (c.productOfLoops pairs ds)) (c.runningPoints pairs ds) =
      (c.productOfLoops pairs (d :: ds), c.runningPoints pairs (d :: ds)) := by
  have hpos := Nat.zero_lt_of_lt hp
  have hsq : c.mul6 c.one6 (c.sq6 (c.productOfLoops pairs ds)) = c.sq6 (c.productOfLoops pairs ds) :=
    one6_mul6_of_reduced hp (reduced6_mul6 hpos _ _)
  have h := allPairs_mul6_sq6 hp d ds pairs c.one6
  rwa [hsq, one6_mul6_of_reduced hp (reduced6_productOfLoops hpos _ _)] at h

theorem productOfLoops_nil (hp : 1 < c.pMod) (pairs : List (Pair Nat)) : c.productOfLoops pairs [] = c.one6 := by
  induction pairs with
  | nil => rfl
  | cons k pairs ih =>
    rw [productOfLoops_cons, ih]
    exact one6_mul6_of_reduced hp (reduced6_one6 (Nat.zero_lt_of_lt hp))

/-- The state of the loop after its digits: the product so far, and the running point of every pair. -/
theorem foldr_allPairs (hp : 1 < c.pMod) (pairs : List (Pair Nat)) (ds : List Digit) :
    ds.foldr (fun d acc => c.allPairs d (c.sq6 acc.1) acc.2) (c.one6, c.runningPoints pairs []) =
      (c.productOfLoops pairs ds, c.runningPoints pairs ds) := by
  induction ds with
  | nil => rw [List.foldr_nil, productOfLoops_nil hp]
  | cons d ds ih => rw [List.foldr_cons, ih, allPairs_sq6 hp]

/-- The loop over all pairs is the product of the loops of each (R291). -/
theorem millerLoop_eq_productOfLoops (hp : 1 < c.pMod) (digits : List Digit) (pairs : List (Pair Nat)) :
    c.millerLoop digits pairs = c.productOfLoops pairs digits.reverse := by
  rw [millerLoop, List.foldl_eq_foldr_reverse]
  exact congrArg Prod.fst (foldr_allPairs hp pairs digits.reverse)

/-- The Miller value is the product of the two loops under their signs (R296). -/
theorem miller_eq (hp : 1 < c.pMod) (pairs : List (Pair Nat)) : c.miller pairs = c.mul6
    (if c.loop1Neg then c.conj6 (c.productOfLoops pairs (bitsBelowTop c.ateLoop1).reverse)
      else c.productOfLoops pairs (bitsBelowTop c.ateLoop1).reverse)
    (if c.loop2Neg then c.conj6 (c.frob6 (c.productOfLoops pairs (naf c.ateLoop2)) 1)
      else c.frob6 (c.productOfLoops pairs (naf c.ateLoop2)) 1) := by
  rw [miller, millerLoop_eq_productOfLoops hp, millerLoop_eq_productOfLoops hp, List.reverse_reverse]

theorem reduced6_miller (h : 0 < c.pMod) (pairs : List (Pair Nat)) : c.Reduced6 (c.miller pairs) :=
  reduced6_mul6 h _ _

theorem reduced6_pairing (hp : 1 < c.pMod) (pairs : List (Pair Nat)) : c.Reduced6 (c.pairing pairs) := by
  unfold pairing
  split
  · exact reduced6_one6 (Nat.zero_lt_of_lt hp)
  · exact reduced6_finalExp hp _

end Sys2Proof.Config

namespace Sys2Proof.Machine

/-! ### The commands (R313, R314, R315) -/

variable {s : State}

theorem pairing_entries : s.cfg.pairing s.entries =
    if s.pairs = [] then s.cfg.one6 else s.cfg.finalExp (s.cfg.miller s.entries) := by
  simp only [Config.pairing, State.entries, List.isEmpty_iff, List.map_eq_nil_iff]

/-- One in Montgomery form (R13). -/
theorem enc6_one6 (c : Config) :
    c.enc6 c.one6 = ⟨⟨BitVec.ofNat 768 (2 ^ 768 % c.pMod), 0, 0⟩, ⟨0, 0, 0⟩⟩ := by
  simp only [Config.enc6, SexticElt.map, CubicElt.map, Config.one6, Config.one3, Config.zero3, enc_mod, Config.enc_zero,
    ← one_eq, Config.one]

theorem eq_of_pairs_eq_nil {t : State} (ht : t.pairs = []) : { t with pairs := [] } = t := by rw [← ht]

section
variable (h : s.entries.all s.cfg.pairInDomain = true)
include h

theorem pairingValue_inDomain : s.pairingValue = some (s.cfg.pairing s.entries) := by
  rw [State.pairingValue, h, inDomain_true]

theorem exec_pairResult (rd : Idx) : exec (.pairResult rd) s =
    .next { (s.setFp6 rd (s.cfg.enc6 (s.cfg.pairing s.entries))).counted with pairs := [] } := by
  simp only [exec, execPairResult, pairingValue_inDomain h]
  rfl

theorem exec_pairCheck : exec .pairCheck s =
    .next { (s.setB (decide (s.cfg.pairing s.entries = s.cfg.one6))).counted with pairs := [] } := by
  simp only [exec, execPairCheck, pairingValue_inDomain h, ← beq_eq_decide]
  rfl

theorem exec_pairMiller (rd : Idx) : exec (.pairMiller rd) s =
    .next ((s.setFp6 rd (draw (isMillerValue s.cfg (s.cfg.miller s.entries)) (s.cfg.enc6 (s.cfg.miller s.entries))
      s.freeSextic)).spend 6).counted := by
  simp only [exec, execPairMiller, h, if_true, complete_eq]

end

/-- The set of R302 has the reference value for a member when that is not zero. -/
theorem isMillerValue_enc6 {c : Config} (hc : c.Sized) {reference : SexticElt Nat} (hr : c.Reduced6 reference)
    (hne : reference ≠ Config.zero6) : isMillerValue c reference (c.enc6 reference) = true := by
  have hden := denotes6_enc6 (Config.enc_denotes hc) hr
  rw [isMillerValue, all_valid_of_denotes6 hden, dec6_eq_of_denotes6 hden, bne_iff_ne.mpr hne, beq_self_eq_true]
  rfl

/-- PAIR.MILLER keeps the list and writes some member of the set of R302. -/
theorem exists_pairMiller (hc : s.cfg.Sized) (h : s.entries.all s.cfg.pairInDomain = true) (rd : Idx)
    (hne : s.cfg.miller s.entries ≠ Config.zero6) : ∃ v : SexticElt Fp, v.all (valid s.cfg) = true ∧
      s.cfg.dec6 v ≠ Config.zero6 ∧ s.cfg.finalExp (s.cfg.dec6 v) = s.cfg.finalExp (s.cfg.miller s.entries) ∧
      exec (.pairMiller rd) s = .next ((s.setFp6 rd v).spend 6).counted := by
  have hmem := draw_mem (isMillerValue_enc6 hc (Config.reduced6_miller hc.pos s.entries) hne) s.freeSextic
  rw [isMillerValue, Bool.and_eq_true, Bool.and_eq_true, bne_iff_ne, beq_iff_eq] at hmem
  obtain ⟨⟨hvalid, hzero⟩, hexp⟩ := hmem
  exact ⟨_, hvalid, hzero, hexp, exec_pairMiller h rd⟩

/-- Settles O55: the commands write the value of `Config.pairing`; the steps denote the group law in homogeneous
coordinates; the loop over all pairs is the product of the loops of each. -/
theorem pairValue : Obligations.PairValue := by
  unfold Obligations.PairValue
  refine ⟨fun s rd hc h => ?value, fun s rd hc hnil => ?empty, fun c x y z h _ _ hz => ⟨fun hcurve => ?double, ?tangent⟩,
    fun c x y z qx qy h hx _ hz hqx _ => ⟨fun hne hla => ?add, fun hla => ?equalX, ?chord⟩,
    fun c => Config.ell_eq, fun c pairs hc => Config.miller_eq hc.one_lt pairs,
    fun n hn => ⟨digitsValue_bitsBelowTop hn, minus_not_mem_bitsBelowTop n⟩⟩
  case value =>
    simp only [← pairing_entries]
    exact ⟨⟨_, denotes6_enc6 (Config.enc_denotes hc) (Config.reduced6_pairing hc.one_lt _), exec_pairResult h rd⟩,
      exec_pairCheck h, exists_pairMiller hc h rd⟩
  case empty =>
    have hnone : s.entries = [] := by rw [State.entries, hnil, List.map_nil]
    have hall : s.entries.all s.cfg.pairInDomain = true := by rw [hnone, List.all_nil]
    have hresult := exec_pairResult hall rd
    have hcheck := exec_pairCheck hall
    rw [pairing_entries, if_pos hnil, enc6_one6] at hresult
    rw [pairing_entries, if_pos hnil, decide_eq_true rfl] at hcheck
    exact ⟨hresult.trans (congrArg Host.Outcome.next (eq_of_pairs_eq_nil hnil)),
      hcheck.trans (congrArg Host.Outcome.next (eq_of_pairs_eq_nil hnil))⟩
  case double =>
    refine Config.denoteHom_doublingStep h hz ?_
    have hcast := congrArg (Nat.cast : Nat → ZMod c.pMod) hcurve
    simpa only [ZMod.natCast_mod, Nat.cast_add, Nat.cast_mul, Nat.cast_pow] using hcast
  case tangent => exact Config.doublingStep_line _ h.prime.pos
  case add => exact Config.denoteHom_additionStep h hz hx hqx hne hla
  case equalX => exact Config.additionStep_of_equal_x _ h.prime.pos hla qy
  case chord => exact Config.additionStep_line _ h.prime.pos qx qy

end Sys2Proof.Machine
end

section
/-! The system and scalar commands (R320 to R327). -/
namespace Sys2Proof.Machine

variable {s : State} {w : Word}

/-- Settles O23: each command completes with the register of its rule written, and 768 bits hold the immediate of
SC.LDI as it is. -/
theorem systemCommands : Obligations.SystemCommands := by
  unfold Obligations.SystemCommands
  intro s
  have himm (imm20 : BitVec 20) : (imm20.setWidth 768).toNat = imm20.toNat := BitVec.toNat_setWidth_of_le (by decide)
  exact ⟨rfl, fun _ => rfl, fun _ => rfl, rfl, fun _ imm20 => ⟨_, himm imm20, rfl⟩, fun _ _ => rfl⟩

/-! ### The commands with a byte string -/

/-- A string in range whose length the command does not take (R54, R336). -/
theorem loadString_refused {ok : Nat → Bool} (f : List Byte → Result)
    (hr : s.dptr.toNat + s.dlen.toNat ≤ s.cfg.dmemSize) (hok : ok s.dlen.toNat = false) :
    loadString w ok s f = .next (errorEntry .formatError w s) := by
  rw [loadString, if_neg (Nat.not_lt.mpr hr), hok, if_neg Bool.false_ne_true, raise_eq]

section
variable (s : State) (r : Idx)

theorem exec_scLd : exec (.scLd r) s = loadString (encode (.scLd r)) (fun n => decide (n ≤ 96)) s
    fun str => complete (s.setSc r (BitVec.ofNat 768 (be str))) := rfl

theorem exec_scSt : exec (.scSt r) s = storeString (encode (.scSt r)) (bytesOf 96 (s.getSc r).toNat) s := rfl

end

/-- Settles O24: in range or not, and a load by its length. -/
theorem scalarLoadStore : Obligations.ScalarLoadStore := by
  unfold Obligations.ScalarLoadStore
  refine fun s r => ⟨fun hr hn => ?short, fun hr hn => ?long, fun hr => ?loadRange, fun hr => ?store,
    fun hr => ?storeRange⟩
  case short =>
    refine ⟨_, toNat_be ((loaded_length s).trans_le hn), ?_⟩
    rw [SetsSc, exec_scLd, loadString_inRange _ hr (decide_eq_true hn), complete_eq]
  case long => rw [exec_scLd, loadString_refused _ hr (decide_eq_false (Nat.not_le.mpr hn))]
  case loadRange => rw [exec_scLd, loadString_outOfRange _ _ hr]
  case store => exact stores_of_storeString (exec_scSt s r) hr
  case storeRange => rw [exec_scSt, storeString_outOfRange (by rwa [bytesOf_length])]

end Sys2Proof.Machine
end

section
/-! Reset and the constants (R351, R353): how the CORE begins, and what no step of it changes. -/
namespace Sys2Proof.Machine

variable {s t : State} {w : Word}

/-- Settles O7: the control registers are the model's reset values, and PAIR.CHECK on the empty list answers true. -/
theorem resetState : Obligations.ResetState := by
  unfold Obligations.ResetState
  have hvalue := pairValue
  unfold Obligations.PairValue at hvalue
  obtain ⟨-, hempty, -⟩ := hvalue
  obtain ⟨-, hcheck⟩ := hempty State.reset 0 sized_published rfl
  exact ⟨rfl, rfl, rfl, rfl, rfl, rfl, rfl, rfl, rfl, rfl, hcheck⟩

theorem cfg_eq_of_execWord (h : execWord w s = .next t) : t.cfg = s.cfg := by
  unfold execWord at h
  split at h
  · exact (effect_of_exec h).cfg_eq
  · rw [raise_eq] at h
    obtain rfl := Host.Outcome.next.inj h
    rfl

/-- Settles O11: by the host's next action, a command by its effect. -/
theorem constantsNeverChange : Obligations.ConstantsNeverChange := by
  unfold Obligations.ConstantsNeverChange
  intro s t h
  match hhost : s.host with
  | [] =>
    rw [step_waiting hhost] at h
    exact Host.Outcome.next.inj h ▸ rfl
  | .command w :: rest =>
    rw [step_command hhost] at h
    exact (cfg_eq_of_execWord h :)
  | .write a b :: rest =>
    rcases Nat.lt_or_ge a s.cfg.dmemSize with ha | ha
    · rw [step_write hhost ha] at h
      exact Host.Outcome.next.inj h ▸ rfl
    · rw [step_writeOutside hhost ha] at h
      cases h
  | .reset :: rest =>
    rw [step_reset hhost] at h
    exact Host.Outcome.next.inj h ▸ rfl

end Sys2Proof.Machine
end

section
/-! Error entry (R331, R333, R336): each condition of R331, with the commands that have it, makes its error entry. -/
namespace Sys2Proof.Machine

variable {i : Instr} {s : State} {g : CurveGroup} {w : Word}

/-! ### Operands out of range (R86, R88) -/

theorem atMost_eq_none {limit : Nat} {imm8 : BitVec 8} : atMost limit imm8 = none ↔ imm8.toNat ≤ limit := by
  unfold atMost
  split <;> simp [*]

/-- A selector that the decoder refuses. -/
theorem lt_of_atMost_ne_none {limit : Nat} {imm8 : BitVec 8} (h : atMost limit imm8 ≠ none) : limit < imm8.toNat :=
  Nat.lt_of_not_le fun hle => h (atMost_eq_none.mpr hle)

theorem execFp3Get_refused (rd : FpIdx) (ra : Idx) {imm8 : BitVec 8} (h : 2 < imm8.toNat) :
    execFp3Get rd ra imm8 s = .next (errorEntry .illegalCommand (encode (.fp3Get rd ra imm8)) s) := by
  unfold execFp3Get
  split
  case h_4 => exact raise_eq ..
  all_goals omega

theorem execFp6Get_refused (rd ra : Idx) {imm8 : BitVec 8} (h : 1 < imm8.toNat) :
    execFp6Get rd ra imm8 s = .next (errorEntry .illegalCommand (encode (.fp6Get rd ra imm8)) s) := by
  unfold execFp6Get
  split
  case h_3 => exact raise_eq ..
  all_goals omega

theorem pointGet_refused (rd : FpIdx) (ra : Idx) {imm8 : BitVec 8} (h : 2 < imm8.toNat) :
    pointGet w g rd ra imm8 s = .next (errorEntry .illegalCommand w s) := by
  unfold pointGet
  split
  case h_4 => exact raise_eq ..
  all_goals omega

theorem pointMsm_refused (rd : Idx) {ra rb : Idx} {imm8 : BitVec 8} (h : msmOperands ra rb imm8 ≠ none) :
    pointMsm w g rd ra rb imm8 s = .next (errorEntry .illegalCommand w s) := by
  rcases pointMsm_cases s w g rd ra rb imm8 with ⟨-, hraise⟩ | ⟨hnone, -⟩
  · exact hraise
  · exact absurd hnone h

/-- Only the component reads and the multi-scalar multiplications have operands that can be out of range. -/
theorem exec_of_not_wellFormed (h : ¬i.WellFormed) :
    exec i s = .next (errorEntry .illegalCommand (encode i) s) := by
  cases i
  case fp3Get rd ra imm8 => exact execFp3Get_refused rd ra (lt_of_atMost_ne_none h)
  case fp6Get rd ra imm8 => exact execFp6Get_refused rd ra (lt_of_atMost_ne_none h)
  case g1Get rd ra imm8 | g2Get rd ra imm8 => exact pointGet_refused rd ra (lt_of_atMost_ne_none h)
  case g1Msm rd ra rb imm8 | g2Msm rd ra rb imm8 => exact pointMsm_refused rd h
  all_goals exact absurd rfl h

/-! ### Loads and stores (R54, R57) -/

theorem pointLd_eq_loadString (rd : Idx) (s : State) : ∃ f, pointLd w g rd s = loadString w (· == 192) s f :=
  ⟨_, rfl⟩

/-- Every command with a load length is the common load, with some decoder of its string. -/
theorem exec_of_loadLength {ok : Nat → Bool} (h : i.loadLength = some ok) (s : State) :
    ∃ f, exec i s = loadString (encode i) ok s f := by
  cases i
  case scLd | fpLd | fp3Ld | fp6Ld =>
    obtain rfl := Option.some.inj h
    unfold exec
    exact ⟨_, rfl⟩
  case g1Ld rd | g2Ld rd =>
    obtain rfl := Option.some.inj h
    exact pointLd_eq_loadString rd s
  all_goals cases h

theorem pointSt_outOfRange (ra : Idx) (hr : s.cfg.dmemSize < s.dptr.toNat + 192) :
    pointSt w g ra s = .next (errorEntry .dmemRange w s) := by
  rcases pointSt_cases s w g ra with ⟨-, hraise⟩ | ⟨hin, -⟩
  · exact hraise
  · exact absurd hr (Nat.not_lt.mpr hin)

/-- Every command with a store width raises `DmemRange` when its bytes leave the buffer. -/
theorem exec_of_storeWidth (h : 0 < i.storeWidth) (hr : s.cfg.dmemSize < s.dptr.toNat + i.storeWidth) :
    exec i s = .next (errorEntry .dmemRange (encode i) s) := by
  cases i
  case scSt | fpSt | fp3St | fp6St =>
    unfold exec
    exact storeString_outOfRange (by simpa [Instr.storeWidth] using hr)
  case g1St ra | g2St ra => exact pointSt_outOfRange ra hr
  all_goals cases h

/-! ### The content of a point (R65) -/

theorem toNat_fpAt (str : List Byte) (k : Nat) : (fpAt str k).toNat = be ((str.drop (96 * k)).take 96) :=
  toNat_be (List.length_take_le _ _)

/-- The decode of 192 bytes refuses those that are not all zero and give a coordinate out of range or no point of the
curve. -/
theorem pointOfBytes_eq_none_iff {c : Config} {b : Nat} {str : List Byte} (hlen : str.length = 192) :
    pointOfBytes c b str = none ↔
      let x := be (str.take 96)
      let y := be (str.drop 96)
      (∃ byte ∈ str, byte ≠ 0) ∧
        (c.pMod ≤ x ∨ c.pMod ≤ y ∨ c.mont y y ≠ (c.mont (c.mont x x) x + (c.enc b).toNat) % c.pMod) := by
  have hx : (fpAt str 0).toNat = be (str.take 96) := toNat_fpAt str 0
  have hy : (fpAt str 1).toNat = be (str.drop 96) := by
    rw [toNat_fpAt, List.take_of_length_le (by rw [List.length_drop, hlen])]
  by_cases hall : str.all (· == 0) = true
  · have hzero : ¬∃ byte ∈ str, byte ≠ 0 := by simpa using hall
    rw [pointOfBytes, if_pos hall]
    exact iff_of_false (Option.some_ne_none _) fun h => hzero h.1
  · have hbyte : ∃ byte ∈ str, byte ≠ 0 := by simpa using hall
    simp only [pointOfBytes, if_neg hall, hx, hy, ge_iff_le, and_iff_right hbyte, ite_eq_left_iff, reduceCtorEq,
      imp_false, not_not, ← or_assoc]
    exact or_iff_not_imp_left.symm

/-- The content check of R331 fails exactly where the decode of the loaded bytes does. -/
theorem offCurve_iff (hn : s.dlen.toNat = 192) :
    s.offCurve g ↔ pointOfBytes s.cfg (curveB s.cfg g) s.loaded = none := by
  rw [pointOfBytes_eq_none_iff ((loaded_length s).trans hn), State.loaded, hn]
  rfl

theorem exec_of_decodedGroup (h : decodedGroup i = some g) (s : State) :
    ∃ rd, exec i s = pointLd (encode i) g rd s := by
  cases i
  case g1Ld rd | g2Ld rd =>
    obtain rfl := Option.some.inj h
    exact ⟨rd, rfl⟩
  all_goals cases h

/-! ### A full pair list (R310) -/

theorem exec_of_queuedRegisters {ra rb : Idx} (h : queuedRegisters i = some (ra, rb)) (s : State) :
    ∃ side, exec i s = queue (encode i) side ra rb s := by
  cases i
  case pairAdd | pairAddInv =>
    cases h
    exact ⟨_, rfl⟩
  all_goals cases h

/-! ### The error entry -/

/-- A condition of R331 that holds makes the error entry of its code. -/
theorem exec_of_errs {e : CoreError} (h : Errs i s e) : exec i s = .next (errorEntry e (encode i) s) := by
  cases h with
  | illegal hw => exact exec_of_not_wellFormed hw
  | loadRange hl hr =>
    obtain ⟨ok, hok⟩ := Option.isSome_iff_exists.mp hl
    obtain ⟨f, hf⟩ := exec_of_loadLength hok s
    rw [hf, loadString_outOfRange _ _ hr]
  | storeRange hw hr => exact exec_of_storeWidth hw hr
  | format ok hok hr hn =>
    obtain ⟨f, hf⟩ := exec_of_loadLength hok s
    rw [hf, loadString_refused _ hr hn]
  | content g hg hr hn hoff =>
    obtain ⟨rd, hrd⟩ := exec_of_decodedGroup hg s
    rw [hrd, pointLd_of_refused _ hr hn ((offCurve_iff hn).mp hoff)]
  | full ra rb hq hfull hp hq0 =>
    obtain ⟨side, hside⟩ := exec_of_queuedRegisters hq s
    rw [hside, queue_full hp hq0 hfull]

/-- Settles O13: each condition makes its error entry, and a presented word is the word of the command it decodes
to. -/
theorem errorEntry_of_errs : Obligations.ErrorEntry := by
  unfold Obligations.ErrorEntry
  refine ⟨rfl, rfl, rfl, rfl, rfl, fun i s e h => exec_of_errs h, fun w i s e hw h => ?_⟩
  obtain ⟨-, rfl⟩ := encodeOfDecode w i hw
  rw [execWord, hw]
  exact exec_of_errs h

end Sys2Proof.Machine
end

section
/-! What an error record can do (R335): the conditions of R331 do not read it, and a command for which none holds gives
the same result whatever the record is, and keeps it. -/
namespace Sys2Proof.Machine

/-- The three registers that error entry writes (R332). -/
structure ErrorRecord where
  err : BitVec 8
  errcmd : Word
  erridx : BitVec 64

/-- The state with the record replaced. -/
def State.withRecord (s : State) (r : ErrorRecord) : State :=
  { s with err := r.err, errcmd := r.errcmd, erridx := r.erridx }

/-- The record of a state. -/
def State.record (s : State) : ErrorRecord := ⟨s.err, s.errcmd, s.erridx⟩

/-- The result with the record of its state replaced. -/
def withRecord (r : ErrorRecord) : Result → Result
  | .next s => .next (s.withRecord r)
  | .fault f => .fault f
  | .refused f => .refused f

section
variable {i : Instr} {s : State} (r : ErrorRecord)

/-- No condition reads the record. -/
theorem Errs.withRecord {e : CoreError} (h : Errs i s e) : Errs i (s.withRecord r) e := by
  cases h with
  | illegal hw => exact .illegal hw
  | loadRange hl hr => exact .loadRange hl hr
  | storeRange hw hr => exact .storeRange hw hr
  | format ok hok hr hn => exact .format ok hok hr hn
  | content g hg hr hn hoff => exact .content g hg hr hn hoff
  | full ra rb hq hfull hp hq0 => exact .full ra rb hq hfull hp hq0

/-! ### The shared operations -/

theorem ite_withRecord {c : Prop} [Decidable c] {a b a' b' : Result} (ha : c → a' = withRecord r a)
    (hb : ¬c → b' = withRecord r b) : (if c then a' else b') = withRecord r (if c then a else b) := by
  split
  · exact ha ‹c›
  · exact hb ‹¬c›

variable (s)

theorem State.putFp_withRecord (rd : FpIdx) (o : Option Fp) :
    (s.withRecord r).putFp rd o = (s.putFp rd o).withRecord r := by
  cases o <;> rfl

theorem State.putFp3_withRecord (rd : Idx) (o : Option (CubicElt Fp)) :
    (s.withRecord r).putFp3 rd o = (s.putFp3 rd o).withRecord r := by
  cases o <;> rfl

theorem State.putFp6_withRecord (rd : Idx) (o : Option (SexticElt Fp)) :
    (s.withRecord r).putFp6 rd o = (s.putFp6 rd o).withRecord r := by
  cases o <;> rfl

theorem State.putB_withRecord (o : Option Bool) : (s.withRecord r).putB o = (s.putB o).withRecord r := by
  cases o <;> rfl

theorem State.setPoint_withRecord (g : CurveGroup) (rd : Idx) (v : Point Fp) :
    (s.withRecord r).setPoint g rd v = (s.setPoint g rd v).withRecord r := by
  cases g <;> rfl

theorem State.putPoint_withRecord (g : CurveGroup) (rd : Idx) (o : Option (Point Fp)) :
    (s.withRecord r).putPoint g rd o = (s.putPoint g rd o).withRecord r := by
  cases g <;> cases o <;> rfl

theorem State.putClass_withRecord (g : CurveGroup) (rd : Idx) (o : Option (Point Nat)) :
    (s.withRecord r).putClass g rd o = (s.putClass g rd o).withRecord r := by
  cases g <;> cases o <;> rfl

theorem fpLazy_withRecord (ok : Bool) (exact' named : Nat) (rd : FpIdx) :
    fpLazy ok exact' named rd (s.withRecord r) = withRecord r (fpLazy ok exact' named rd s) := by
  cases ok <;> rfl

theorem storeString_withRecord {w : Word} {bytes : List Byte} (hr : s.dptr.toNat + bytes.length ≤ s.cfg.dmemSize) :
    storeString w bytes (s.withRecord r) = withRecord r (storeString w bytes s) :=
  ite_withRecord r (fun hbad => absurd hr (Nat.not_le.mpr hbad)) fun _ => rfl

theorem pointMsm_withRecord {w : Word} (g : CurveGroup) (rd : Idx) {ra rb : Idx} {imm8 : BitVec 8}
    (hw : msmOperands ra rb imm8 = none) :
    pointMsm w g rd ra rb imm8 (s.withRecord r) = withRecord r (pointMsm w g rd ra rb imm8 s) := by
  refine ite_withRecord r (fun hbad => ?_) fun _ => ite_withRecord r (fun _ => ite_withRecord r (fun _ => ?_)
    fun _ => ?_) fun _ => congrArg complete (s.putPoint_withRecord r g rd none)
  · rw [hw] at hbad
    cases hbad
  · exact congrArg (fun t : State => complete (t.spend 3)) (s.setPoint_withRecord r g rd _)
  · exact congrArg (fun t : State => complete (t.spend 3)) (s.setPoint_withRecord r g rd _)

end

/-! ### Where no condition of R331 holds -/

section
variable {i : Instr} {s : State} (h : ∀ e, ¬Errs i s e)
include h

theorem wellFormed_of_noErrs : i.WellFormed := not_not.mp fun hw => h _ (.illegal hw)

theorem inRange_of_noErrs (hl : i.loadLength.isSome) : s.dptr.toNat + s.dlen.toNat ≤ s.cfg.dmemSize :=
  Nat.not_lt.mp fun hr => h _ (.loadRange hl hr)

theorem lengthOk_of_noErrs {ok : Nat → Bool} (hl : i.loadLength = some ok) : ok s.dlen.toNat = true :=
  Bool.of_not_eq_false fun hn => h _ (.format ok hl (inRange_of_noErrs h (Option.isSome_of_eq_some hl)) hn)

theorem storeInRange_of_noErrs (hw : 0 < i.storeWidth) : s.dptr.toNat + i.storeWidth ≤ s.cfg.dmemSize :=
  Nat.not_lt.mp fun hr => h _ (.storeRange hw hr)

variable (r : ErrorRecord)

theorem loadString_withRecord_of_noErrs {ok : Nat → Bool} {f f' : List Byte → Result} (hl : i.loadLength = some ok)
    (hf : f' s.loaded = withRecord r (f s.loaded)) :
    loadString (encode i) ok (s.withRecord r) f' = withRecord r (loadString (encode i) ok s f) := by
  have hr := inRange_of_noErrs h (Option.isSome_of_eq_some hl)
  have hok := lengthOk_of_noErrs h hl
  rw [loadString_inRange f hr hok, ← hf]
  exact loadString_inRange (s := s.withRecord r) f' hr hok

theorem pointLd_withRecord_of_noErrs {g : CurveGroup} (rd : Idx) (hl : i.loadLength = some (· == 192))
    (hg : decodedGroup i = some g) :
    pointLd (encode i) g rd (s.withRecord r) = withRecord r (pointLd (encode i) g rd s) := by
  have hr := inRange_of_noErrs h (Option.isSome_of_eq_some hl)
  have hn : s.dlen.toNat = 192 := beq_iff_eq.mp (lengthOk_of_noErrs h hl)
  have hdecoded : pointOfBytes s.cfg (curveB s.cfg g) s.loaded ≠ none := fun hnone =>
    h _ (.content g hg hr hn ((offCurve_iff hn).mpr hnone))
  obtain ⟨v, hv⟩ := Option.ne_none_iff_exists'.mp hdecoded
  rw [pointLd_of_decoded rd hr hn hv, pointLd_of_decoded (s := s.withRecord r) rd hr hn hv, s.setPoint_withRecord]
  rfl

theorem pointSt_withRecord_of_noErrs (g : CurveGroup) (ra : Idx) (hw : i.storeWidth = 192) :
    pointSt (encode i) g ra (s.withRecord r) = withRecord r (pointSt (encode i) g ra s) := by
  have hr : s.dptr.toNat + 192 ≤ s.cfg.dmemSize := hw ▸ storeInRange_of_noErrs h (hw ▸ by decide)
  refine ite_withRecord r (fun _ => storeString_withRecord s r ?point) fun _ =>
    ite_withRecord r (fun hbad => absurd hr (Nat.not_le.mpr hbad)) fun _ =>
      storeString_withRecord (s.spend 2) r ?drawn
  case point => rwa [pointBytes_length]
  case drawn => rwa [List.length_append, fpBytes_length, fpBytes_length]

theorem queue_withRecord_of_noErrs (side : Fp → Fp) {ra rb : Idx} (hq : queuedRegisters i = some (ra, rb)) :
    queue (encode i) side ra rb (s.withRecord r) = withRecord r (queue (encode i) side ra rb s) := by
  refine ite_withRecord r (fun _ => rfl) fun hz => ite_withRecord r (fun hfull => ?full) fun _ => ?room
  case full =>
    obtain ⟨hp, hq0⟩ := not_or.mp hz
    exact absurd (.full ra rb hq hfull hp hq0) (h .pairListFull)
  case room =>
    have hentry : queuedPair (s.withRecord r) side ra rb = queuedPair s side ra rb := rfl
    rw [hentry]
    cases queuedPair s side ra rb <;> rfl

end

/-! ### The commands with a selector, and the square root -/

section
variable {s : State} (r : ErrorRecord)

theorem pointGet_withRecord {w : Word} (g : CurveGroup) (rd : FpIdx) (ra : Idx) {imm8 : BitVec 8}
    (hw : atMost 2 imm8 = none) :
    pointGet w g rd ra imm8 (s.withRecord r) = withRecord r (pointGet w g rd ra imm8 s) := by
  unfold pointGet
  have hle := atMost_eq_none.mp hw
  generalize imm8.toNat = n at hle
  cases g <;> match n, hle with
  | 0, _ | 1, _ | 2, _ => rfl

theorem execFp3Get_withRecord (rd : FpIdx) (ra : Idx) {imm8 : BitVec 8} (hw : atMost 2 imm8 = none) :
    execFp3Get rd ra imm8 (s.withRecord r) = withRecord r (execFp3Get rd ra imm8 s) := by
  unfold execFp3Get
  have hle := atMost_eq_none.mp hw
  generalize imm8.toNat = n at hle
  match n, hle with
  | 0, _ | 1, _ | 2, _ => rfl

theorem execFp6Get_withRecord (rd ra : Idx) {imm8 : BitVec 8} (hw : atMost 1 imm8 = none) :
    execFp6Get rd ra imm8 (s.withRecord r) = withRecord r (execFp6Get rd ra imm8 s) := by
  unfold execFp6Get
  have hle := atMost_eq_none.mp hw
  generalize imm8.toNat = n at hle
  match n, hle with
  | 0, _ | 1, _ => rfl

/-- `FP.SQRT` writes its register and `FLAG.B` (R141). -/
theorem execFpSqrt_withRecord (rd ra : FpIdx) :
    execFpSqrt rd ra (s.withRecord r) = withRecord r (execFpSqrt rd ra s) :=
  ite_withRecord r (fun _ => congrArg (fun t : State => complete (t.setB _)) (s.putFp_withRecord r rd _)) fun _ => rfl

end

/-! ### Every command -/

/-- A command other than CLRERR for which no condition of R331 holds: the record has no part in its result. -/
theorem exec_withRecord_of_noErrs {i : Instr} {s : State} (h : ∀ e, ¬Errs i s e) (hi : i ≠ .clrErr)
    (r : ErrorRecord) : exec i (s.withRecord r) = withRecord r (exec i s) := by
  cases i
  case clrErr => exact absurd rfl hi
  -- Writes of one field, whatever the operands hold
  case nop | setPtr | setLen | scLdi | scMov | fpToSc | fpZero | fpOne | fpModulus | fpMov | fpFromSc | fp3Zero |
      fp3One | fp3Mov | fp3Set | fp6Zero | fp6One | fp6Mov | fp6Set | g1Zero | g1Gen | g1Mov | g1Set | g2Zero |
      g2Gen | g2Mov | g2Set | fpCmp | fpEq | fpIsZero | fpIsOne | fpIsOdd | fpIsEven | fpIsValid | fp3Eq |
      fp3IsZero | fp3IsOne | fp6Eq | fp6IsZero | fp6IsOne | g1IsAffine | g1IsInf | g2IsAffine | g2IsInf | pairReset =>
    rfl
  -- Components
  case fp3Get rd ra imm8 => exact execFp3Get_withRecord r rd ra (wellFormed_of_noErrs h)
  case fp6Get rd ra imm8 => exact execFp6Get_withRecord r rd ra (wellFormed_of_noErrs h)
  case g1Get rd ra imm8 | g2Get rd ra imm8 => exact pointGet_withRecord r _ rd ra (wellFormed_of_noErrs h)
  -- Loads and stores
  case scLd | fp3Ld | fp6Ld =>
    unfold exec
    exact loadString_withRecord_of_noErrs h r rfl rfl
  case fpLd rd =>
    unfold exec
    exact loadString_withRecord_of_noErrs h r rfl (congrArg complete (s.putFp_withRecord r rd _))
  case g1Ld rd | g2Ld rd => exact pointLd_withRecord_of_noErrs h r rd rfl rfl
  case scSt | fpSt | fp3St | fp6St =>
    unfold exec
    exact storeString_withRecord s r (by simpa [Instr.storeWidth] using storeInRange_of_noErrs h)
  case g1St ra | g2St ra => exact pointSt_withRecord_of_noErrs h r _ ra rfl
  -- Arithmetic of the tower: a register written, drawn out of domain
  case fpToMont rd _ | fpFromMont rd _ | fpAdd rd _ _ | fpSub rd _ _ | fpDouble rd _ | fpNeg rd _ | fpMul rd _ _ |
      fpSquare rd _ | fpInv rd _ | fpExp rd _ _ | fpMulNr rd _ =>
    exact congrArg complete (s.putFp_withRecord r rd _)
  case fp3Add rd _ _ | fp3Sub rd _ _ | fp3Double rd _ | fp3Neg rd _ | fp3Mul rd _ _ | fp3Square rd _ | fp3Inv rd _ |
      fp3Exp rd _ _ | fp3Frob rd _ _ | fp3Mul0 rd _ _ =>
    exact congrArg complete (s.putFp3_withRecord r rd _)
  case fp6Add rd _ _ | fp6Sub rd _ _ | fp6Double rd _ | fp6Neg rd _ | fp6Mul rd _ _ | fp6Square rd _ | fp6CycSq rd _ |
      fp6Inv rd _ | fp6Exp rd _ _ | fp6Conj rd _ | fp6Frob rd _ _ | fp6Mul014 rd _ _ _ | fp6Mul034 rd _ _ _ |
      fexp rd _ | fexpEasy rd _ | fexpHard rd _ =>
    exact congrArg complete (s.putFp6_withRecord r rd _)
  case fpLAdd | fpLDouble | fpLSub => exact fpLazy_withRecord s r _ _ _ _
  case fp3LAdd | fp6LAdd => exact ite_withRecord r (fun _ => rfl) fun _ => rfl
  case fpSqrt rd ra => exact execFpSqrt_withRecord r rd ra
  -- Arithmetic of the groups
  case g1Add rd _ _ | g1Double rd _ | g1Sub rd _ _ | g1MulSc rd _ _ | g1ClrCof rd _ | g2Add rd _ _ | g2Double rd _ |
      g2Sub rd _ _ | g2MulSc rd _ _ | g2ClrCof rd _ =>
    exact congrArg complete (s.putClass_withRecord r _ rd _)
  case g1Neg rd _ | g1Affine rd _ | g2Neg rd _ | g2Affine rd _ =>
    exact congrArg complete (s.putPoint_withRecord r _ rd _)
  case g1Msm rd ra rb imm8 | g2Msm rd ra rb imm8 =>
    exact pointMsm_withRecord s r _ rd (wellFormed_of_noErrs h)
  -- Answers, drawn out of domain
  case fpIsQnr | fp6IsValid | g1IsOnCurve | g1Eq | g2IsOnCurve | g2Eq | g2InSub =>
    exact congrArg complete (s.putB_withRecord r _)
  -- Pairing
  case pairAdd | pairAddInv => exact queue_withRecord_of_noErrs h r _ rfl
  case pairResult rd =>
    exact congrArg (fun t : State => complete { t with pairs := [] }) (s.putFp6_withRecord r rd _)
  case pairCheck => exact congrArg (fun t : State => complete { t with pairs := [] }) (s.putB_withRecord r _)
  case pairMiller => exact ite_withRecord r (fun _ => rfl) fun _ => rfl

/-! ### The statements -/

/-- Settles O14: with its own record put in, the state is itself, so its record is that of the result. -/
theorem noOtherError : Obligations.NoOtherError := by
  unfold Obligations.NoOtherError
  intro i s t hnone h
  refine ⟨fun hi => ?clears, fun hi => ?keeps⟩
  case clears =>
    subst hi
    obtain rfl : (clearError s).counted = t := Host.Outcome.next.inj h
    exact ⟨rfl, rfl, rfl⟩
  case keeps =>
    have hsame : exec i s = withRecord s.record (exec i s) := exec_withRecord_of_noErrs hnone hi s.record
    rw [h] at hsame
    have ht : t = t.withRecord s.record := Host.Outcome.next.inj hsame
    rw [ht]
    exact ⟨rfl, rfl, rfl⟩

/-- Settles O15: CLRERR, a condition of R331 that holds in both states, or a result in which the record has no part. -/
theorem errorsMaskNothing : Obligations.ErrorsMaskNothing := by
  unfold Obligations.ErrorsMaskNothing
  intro i s t err errcmd erridx h
  by_cases hi : i = .clrErr
  · subst hi
    obtain rfl : (clearError s).counted = t := Host.Outcome.next.inj h
    exact ⟨_, rfl, rfl⟩
  by_cases herrs : ∃ e, Errs i s e
  · obtain ⟨e, he⟩ := herrs
    obtain rfl : errorEntry e (encode i) s = t := Host.Outcome.next.inj ((exec_of_errs he).symm.trans h)
    exact ⟨_, exec_of_errs (he.withRecord ⟨err, errcmd, erridx⟩), rfl⟩
  · have hrecord := exec_withRecord_of_noErrs (not_exists.mp herrs) hi ⟨err, errcmd, erridx⟩
    rw [h] at hrecord
    exact ⟨t.withRecord ⟨err, errcmd, erridx⟩, hrecord, rfl⟩

end Sys2Proof.Machine
end
